-- ==== Sys2Proof/Word.lean ====
section
/-! DEFINITION. The plain word types of ECCFI: addresses, bytes, bus words, the two-limb Word128 and the three-valued
fault code. No arithmetic stands here; it is in Machine/Operands.lean. -/

namespace Sys2Proof

/-- An `AW`-bit address, `AW` = 32 (00_scope R7). -/
abbrev Addr := BitVec 32

/-- A 32-bit bus datum (00_scope R12, 30_encoding R91). -/
abbrev Word32 := BitVec 32

/-- A 64-bit value: a data word or one limb of a Word128. -/
abbrev Word64 := BitVec 64

/-- An 8-bit value: a parity, a syndrome, a command byte. -/
abbrev Byte := BitVec 8

/-- The 24-bit word address of `ECC_CTL.WORD_ADDR` (10_state R33). -/
abbrev WordAddr := BitVec 24

/-- A register index, 0 to 15 (10_state R52). -/
abbrev RegIndex := BitVec 4

/-- A Format B bus request word, 37 bits (30_encoding R91). -/
abbrev BusWord := BitVec 37

/-- An exact 128-bit value held as two 64-bit limbs (00_scope R10). -/
structure Word128 where
  /-- bits 63:0 -/
  low : Word64
  /-- bits 127:64 -/
  high : Word64
deriving DecidableEq, Repr, Inhabited

/-- The fault codes of `dataFault` and `parityFault` (00_scope R13); the fourth 2-bit code is reserved and is no
constructor here. -/
inductive FaultCode where
  /-- flip nothing; code 0 -/
  | none
  /-- flip the lowest bit; code 1 -/
  | oneBit
  /-- flip the lowest two bits; code 2 -/
  | twoBit
deriving DecidableEq, Repr, Inhabited

end Sys2Proof
end

