-- ==== Sys2Proof/Syntax.lean ====
section
/-! DEFINITION. The eleven operations of spec/opcode_table.json (30_encoding R94). -/

namespace Sys2Proof

/-- One constructor per row of the opcode table. `rd` and `wr` are the bus operations of Format B; the others are the
commands a `wr` to register index 10 (`CMD`) issues. -/
inductive Instr where
  /-- `RD reg` (42_control_register_ops R146) -/
  | rd (reg : RegIndex)
  /-- `WR reg, v` (42_control_register_ops R147) -/
  | wr (reg : RegIndex) (v : Word32)
  /-- `CWBUILD` (40_codeword_builder R123) -/
  | cwbuild
  /-- `PARGEN` (41_parity_generator R132) -/
  | pargen
  /-- `ECCGEN` (41_parity_generator R135) -/
  | eccgen
  /-- `INJECT dd, pp` (43_fault_injector R171) -/
  | inject (dd pp : FaultCode)
  /-- `SETADDR` (42_control_register_ops R154) -/
  | setaddr
  /-- `SETPAR` (42_control_register_ops R155) -/
  | setpar
  /-- `ARM` (42_control_register_ops R156) -/
  | arm
  /-- `DISARM` (42_control_register_ops R157) -/
  | disarm
  /-- `CLRINT` (42_control_register_ops R158) -/
  | clrint
deriving DecidableEq, Repr

end Sys2Proof
end

