-- ==== Sys2Proof/WellFormed.lean ====
section
/-! DEFINITION. Which terms of Instr the decoder can produce: all but a `wr` to CMD whose data is a legal command, since
that bus word IS the command (30_encoding R93; log 18). -/

namespace Sys2Proof

/-- The seventeen legal values of the data of a `WR` to `CMD`, as 30_encoding R98 lists them. -/
def legalCommands : List Word32 :=
  [0x10, 0x20, 0x30, 0x40, 0x41, 0x42, 0x44, 0x45, 0x46, 0x48, 0x49, 0x4A, 0x50, 0x60, 0x70, 0x80, 0x90]

/-- Well-formedness: a `wr` to `CMD` must not carry a legal command. Every other term is well formed: each field's type
already holds exactly the values its encoding admits. -/
def wellFormed : Instr → Bool
  | .wr reg v => !(reg == 10#4 && legalCommands.contains v)
  | .rd _ | .cwbuild | .pargen | .eccgen | .inject _ _ | .setaddr | .setpar | .arm | .disarm | .clrint => true

end Sys2Proof
end

