-- ==== Sys2Proof/Decode.lean ====
section
/-! DEFINITION. The decoder of Format B and Format C (30_encoding R90 to R99), rejecting an illegal command by name, and
the encoder written from the same tables. -/

namespace Sys2Proof

/-- Why the data of a `WR` to `CMD` is no legal command: the four cases of 30_encoding R98, in its order. -/
inductive IllegalCommand where
  /-- `v[31:8]` is not zero -/
  | upperBitsNotZero
  /-- `OP` is 0000 or 1010 to 1111 -/
  | reservedOpcode
  /-- `OP` is not 0100 and `v[3:0]` is not zero -/
  | lowNibbleNotZero
  /-- `OP` is 0100 and `dd` or `pp` is 3 -/
  | reservedFaultCode
deriving DecidableEq, Repr

/-- The index of `CMD` in the register map (10_state R52). -/
def cmdIndex : RegIndex := 10#4

/-- The 2-bit code of a fault code (00_scope R13). -/
def faultToBits : FaultCode → BitVec 2
  | .none => 0#2
  | .oneBit => 1#2
  | .twoBit => 2#2

/-- The fault code of a 2-bit field; 3 is reserved (30_encoding R95). -/
def faultOfBits (b : BitVec 2) : Option FaultCode :=
  match b.toNat with
  | 0 => some .none
  | 1 => some .oneBit
  | 2 => some .twoBit
  | _ => Option.none

/-- The command an opcode other than INJECT's stands for (30_encoding R94). -/
def plainCommand (op : BitVec 4) : Option Instr :=
  match op.toNat with
  | 1 => some .cwbuild
  | 2 => some .pargen
  | 3 => some .eccgen
  | 5 => some .setaddr
  | 6 => some .setpar
  | 7 => some .arm
  | 8 => some .disarm
  | 9 => some .clrint
  | _ => none

/-- A command byte's fields `oooo ddpp` decoded (30_encoding R92, R94, R98). -/
def decodeFields (op : BitVec 4) (dd pp : BitVec 2) : Except IllegalCommand Instr :=
  if op = 4#4 then
    match faultOfBits dd, faultOfBits pp with
    | some d, some p => .ok (.inject d p)
    | _, _ => .error .reservedFaultCode
  else
    match plainCommand op with
    | none => .error .reservedOpcode
    | some i => if dd = 0#2 ∧ pp = 0#2 then .ok i else .error .lowNibbleNotZero

/-- Format C: the data `v` of a `WR` to `CMD` decoded, or the reason it is illegal (30_encoding R92, R98). -/
def decodeCommand (v : Word32) : Except IllegalCommand Instr :=
  if v.extractLsb' 8 24 = 0#24 then
    decodeFields (v.extractLsb' 4 4) (v.extractLsb' 2 2) (v.extractLsb' 0 2)
  else .error .upperBitsNotZero

/-- Format B: total on all 37-bit words (30_encoding R91, R99). A `WR` to `CMD` with a legal command is that command; with
an illegal one it stays a `wr`, whose meaning aborts (R98). The ignored `WDATA` of a read is dropped (log 17). -/
def decodeBus (w : BusWord) : Instr :=
  let reg : RegIndex := w.extractLsb' 32 4
  let v : Word32 := w.extractLsb' 0 32
  if w.getLsbD 36 then
    if reg = cmdIndex then
      match decodeCommand v with
      | .ok i => i
      | .error _ => .wr reg v
    else .wr reg v
  else .rd reg

/-- A Format B word put together from its fields (30_encoding R91, 95_test_vectors section 4). -/
def busWord (write : Bool) (reg : RegIndex) (v : Word32) : BusWord :=
  ((BitVec.ofBool write).setWidth 37 <<< 36) ||| (reg.setWidth 37 <<< 32) ||| v.setWidth 37

/-- The bus word that carries a command byte: a `WR` to `CMD` with `WDATA[31:8]` zero (30_encoding R92). -/
def carryCommand (b : Byte) : BusWord :=
  busWord true cmdIndex (b.setWidth 32)

/-- The bus word of an instruction, from the opcode map (30_encoding R91, R94, R96). -/
def encode : Instr → BusWord
  | .rd reg => busWord false reg 0#32
  | .wr reg v => busWord true reg v
  | .cwbuild => carryCommand 0x10#8
  | .pargen => carryCommand 0x20#8
  | .eccgen => carryCommand 0x30#8
  | .inject dd pp => carryCommand (0x40#8 ||| ((faultToBits dd).setWidth 8 <<< 2) ||| (faultToBits pp).setWidth 8)
  | .setaddr => carryCommand 0x50#8
  | .setpar => carryCommand 0x60#8
  | .arm => carryCommand 0x70#8
  | .disarm => carryCommand 0x80#8
  | .clrint => carryCommand 0x90#8

/-- The bus word an opcode-table word stands for: a row of at most 8 bits is a command byte (Format C), carried by a
`WR` to `CMD`; a longer one is the Format B word itself (30_encoding R90, R100; log 16). -/
def busWordOf (nbits w : Nat) : BusWord :=
  if nbits ≤ 8 then carryCommand (BitVec.ofNat 8 w) else BitVec.ofNat 37 w

/-- The instruction the decoder reads from an opcode-table word. A command byte that is no legal command, and a word that
has a bit above its format's width, is refused. -/
def decodeTableWord (nbits w : Nat) : Option Instr :=
  if nbits ≤ 8 then
    if w < 2 ^ 8 then (decodeCommand (BitVec.ofNat 32 w)).toOption else none
  else if w < 2 ^ 37 then some (decodeBus (BitVec.ofNat 37 w)) else none

end Sys2Proof
end

