-- ==== Sys2Proof/Config.lean ====
section
/-! DEFINITION. What an implementation of ECCFI fixes (the OPEN parameters of 00_scope R7) and the free values (the draws
of 20_memory R70). Both are opaque constants without a body: no proof can see a value of them. -/

namespace Sys2Proof

/-- The two classes a non-zero syndrome can have (20_memory R71). -/
inductive SyndromeClass where
  | single
  | multi
deriving DecidableEq, Repr, Inhabited

/-- The values of `FS.errorSource` (10_state R43). The three OPEN values `SRC_NONE`, `SRC_CORRECTABLE` and
`SRC_UNCORRECTABLE` are names, distinct from each other as 00_scope R7 asks; every further value is `other` with the raw
number. The field's width and the three numbers are not in the source and stay unsaid (log 10). -/
inductive ErrorSource where
  | srcNone
  | srcCorrectable
  | srcUncorrectable
  | other (raw : Nat)
deriving DecidableEq, Repr, Inhabited

/-- What a pending fault does: the two values of `FS.action` (10_state R44). -/
inductive FaultAction where
  | interrupt
  | reset
deriving DecidableEq, Repr, Inhabited

/-- The OPEN parameters of 00_scope R7 that are fixed for a device. DESIGN CHOICE (log 3): one record, so that every
operation is defined for every device and a test can use the fixture of 95_test_vectors section 2. -/
structure Params where
  /-- `BANK_BASE`, the base address of the bank that holds the target cell -/
  bankBase : Addr
  /-- `k - 3` where `BANK_MASK = 2^k - 1` and `3 <= k <= 27`: the type holds exactly the allowed values -/
  bankBits : Fin 25
  /-- `H[0..7]`, the eight constant rows (41_parity_generator R133) -/
  rows : Fin 8 → Word128
  /-- the OPEN classification of a syndrome (20_memory R71) -/
  classify : Byte → SyndromeClass
  /-- `BG_CHECK`: whether the checker may evaluate a cell without a read (20_memory R75) -/
  bgCheck : Bool
  /-- `TOGGLE_COUNT`: liveness toggles per handler invocation (60_exceptions R215) -/
  toggleCount : Nat
  /-- `SETTLE_DELAY`: timing only, no rule's result depends on it (70_reset R280); nothing reads it -/
  settleDelay : Nat
deriving Inhabited

/-- The device the machine runs on. Uninterpreted: unsafe in no direction, a claim holds for every device (log 3). -/
opaque Config.device : Params

/-- The `n`-th 64-bit draw (20_memory R70; log 4). -/
opaque Config.drawWord64 : Nat → Word64

/-- The `n`-th 32-bit draw (20_memory R70; log 4). -/
opaque Config.drawWord32 : Nat → Word32

/-- The `n`-th 8-bit draw: a parity latch after a reset (10_state R50; log 6). -/
opaque Config.drawByte : Nat → Byte

/-- The `n`-th boolean draw: unspecified flags, and the choice of 20_memory R74 (log 11). -/
opaque Config.drawBit : Nat → Bool

/-- The `n`-th draw of a fault code: `DF` and `PF` after a reset (10_state R38, R50; log 6). -/
opaque Config.drawCode : Nat → FaultCode

/-- The `n`-th draw of an error source (42_control_register_ops R158; log 4). -/
opaque Config.drawSource : Nat → ErrorSource

/-- The `n`-th draw of a fault action: `FS.action` after a reset (10_state R50; log 6). -/
opaque Config.drawAction : Nat → FaultAction

/-- `INIT_OK`, drawn at each boot (00_scope R7, 70_reset R263; log 7). -/
opaque Config.initOk : Nat → Bool

end Sys2Proof
end

