-- ==== Sys2Proof/Machine/Operands.lean ====
section
/-! DEFINITION. The pure components: the Codeword Builder (40_codeword_builder), the Parity Generator
(41_parity_generator), syndrome classification and correction (20_memory R71, R74), and the 32-bit views of the wide
registers (10_state R25). Everything is a function of its arguments; the device's parameters come in as `c`. -/

namespace Sys2Proof.Machine

/-- The canonical data value `CORRECT` (00_scope R7). -/
def correctWord : Word64 := 0x5A5A5A5A5A5A5A5A#64

/-- `w1 XOR w2`, both limbs independently (00_scope R10). -/
def xor128 (w1 w2 : Word128) : Word128 := ⟨w1.low ^^^ w2.low, w1.high ^^^ w2.high⟩

/-- The XOR of bits 0 to `n - 1` of `v`. -/
def xorBelow {m : Nat} (v : BitVec m) : Nat → Bool
  | 0 => false
  | n + 1 => Bool.xor (xorBelow v n) (v.getLsbD n)

/-- `xorreduce(v)`, the XOR of all bits of `v` (00_scope R11). -/
def xorReduce {m : Nat} (v : BitVec m) : Bool := xorBelow v m

/-- The `n`-bit value whose bit `i` is `f i`. -/
def packBits (f : Nat → Bool) : (n : Nat) → BitVec n
  | 0 => 0#0
  | n + 1 => (packBits f n).cons (f n)

/-- Bit `i` of a Word128: `low[i]` below 64, else `high[i - 64]` (00_scope R10). -/
def bit128 (w : Word128) (i : Nat) : Bool :=
  if i < 64 then w.low.getLsbD i else w.high.getLsbD (i - 64)

/-- Row `H[i]`, `i` below 8 (41_parity_generator R133). -/
def rowAt (rows : Fin 8 → Word128) (i : Nat) : Word128 := rows (Fin.ofNat 8 i)

/-- `BANK_MASK = 2^k - 1` (00_scope R7). -/
def bankMask (c : Params) : Addr := BitVec.ofNat 32 (2 ^ (c.bankBits.val + 3) - 1)

/-- `wordaddr(a)`: subtract, then mask, then shift (40_codeword_builder R121). -/
def wordAddr (c : Params) (a : Addr) : Addr := ((a - c.bankBase) &&& bankMask c) >>> 3

/-- `wordaddr(a)[23:0]`, the value of the `WORD_ADDR` field (42_control_register_ops R154). -/
def wordAddr24 (c : Params) (a : Addr) : WordAddr := (wordAddr c a).setWidth 24

/-- `CWBUILD(d, a)`: the data in the low limb, the word address zero-extended in the high one (40_codeword_builder R122). -/
def codeword (c : Params) (d : Word64) (a : Addr) : Word128 := ⟨d, (wordAddr c a).setWidth 64⟩

/-- One lane of the parity generator: the two limb parities of `w AND row`, XORed (41_parity_generator R131, R141). -/
def parityLane (row w : Word128) : Bool :=
  Bool.xor (xorReduce (w.low &&& row.low)) (xorReduce (w.high &&& row.high))

/-- `PARGEN(w)`: bit `i` is the lane of row `i` (41_parity_generator R131). -/
def parGen (rows : Fin 8 → Word128) (w : Word128) : Byte :=
  packBits (fun i => parityLane (rowAt rows i) w) 8

/-- `ECC(d, a) = PARGEN(CWBUILD(d, a))` (41_parity_generator R134). -/
def ecc (c : Params) (d : Word64) (a : Addr) : Byte := parGen c.rows (codeword c d a)

/-- `col(j)`, the column of codeword bit `j`: bit `i` is bit `j` of `H[i]` (41_parity_generator R133). -/
def column (rows : Fin 8 → Word128) (j : Nat) : Byte :=
  packBits (fun i => bit128 (rowAt rows i) j) 8

/-- Column `j` of the 8-by-136 matrix `[H | I8]`: a codeword bit below 128, else parity bit `j - 128` (20_memory R71). -/
def extColumn (rows : Fin 8 → Word128) (j : Nat) : Byte :=
  if j < 128 then column rows j else 1#8 <<< (j - 128)

/-- The data bits (below 64) and parity bits (128 and up) whose column of `[H | I8]` is the syndrome `syn`: the bits a
correction can be about. A word-address bit is none of them, whatever its column (20_memory R74). -/
def indicated (rows : Fin 8 → Word128) (syn : Byte) : List Nat :=
  (List.range 136).filter (fun j => (decide (j < 64) || decide (128 ≤ j)) && extColumn rows j == syn)

/-- The default of `classify`: Single exactly when the syndrome is a column of `[H | I8]` (20_memory R71). -/
def classifyDefault (rows : Fin 8 → Word128) (syn : Byte) : SyndromeClass :=
  if (List.range 136).any (fun j => extColumn rows j == syn) then .single else .multi

/-- How many low bits a fault code flips, its code (00_scope R13). -/
def flipCount : FaultCode → Nat
  | .none => 0
  | .oneBit => 1
  | .twoBit => 2

/-- `flipmask(c) = (1 << c) - 1` (00_scope R13). -/
def flipMask (f : FaultCode) : Byte := (1#8 <<< flipCount f) - 1#8

/-- `legal(df, pf)`: at most two flips in all (43_fault_injector R177). -/
def legalPreset (df pf : FaultCode) : Bool := flipCount df + flipCount pf ≤ 2

/-- Step 5's data: `CORRECT XOR zext_64(flipmask(df))` (43_fault_injector R178). -/
def faultedData (df : FaultCode) : Word64 := correctWord ^^^ (flipMask df).setWidth 64

/-- Step 4's choice among the three parities (43_fault_injector R176). -/
def selectParity (pf : FaultCode) (pcor p1 p2 : Byte) : Byte :=
  match pf with
  | .none => pcor
  | .oneBit => p1
  | .twoBit => p2

/-- The corrected data of 20_memory R74: the one indicated data bit flipped back; unchanged when the indicated bit is a
parity bit. Where the syndrome indicates no data or parity bit, or not one only, the spec does not state which data are the
corrected ones and the value is `free`, a draw (DESIGN CHOICE, safe; log 11). -/
def correctedData (rows : Fin 8 → Word128) (syn : Byte) (d free : Word64) : Word64 :=
  match indicated rows syn with
  | [j] => if j < 64 then d ^^^ (1#64 <<< j) else d
  | _ => free

/-- One of the three values a cell this block has written can hold (10_state R51). -/
def isCanonical (d : Word64) : Bool :=
  d == correctWord || d == faultedData .oneBit || d == faultedData .twoBit

/-- Whether an address is that of a cell: 8-byte aligned (20_memory R63). -/
def aligned8 (a : Addr) : Bool := a.extractLsb' 0 3 == 0#3

/-- Bits 31:0 of a 64-bit register, its lower view (20_memory R62). -/
def lowHalf (x : Word64) : Word32 := x.extractLsb' 0 32

/-- Bits 63:32 of a 64-bit register, its upper view (20_memory R62). -/
def highHalf (x : Word64) : Word32 := x.extractLsb' 32 32

/-- A write of the lower view leaves the upper 32 bits (10_state R25). -/
def withLowHalf (x : Word64) (v : Word32) : Word64 := (x &&& 0xFFFFFFFF00000000#64) ||| v.setWidth 64

/-- A write of the upper view leaves the lower 32 bits (10_state R25). -/
def withHighHalf (x : Word64) (v : Word32) : Word64 := (v.setWidth 64 <<< 32) ||| (x &&& 0x00000000FFFFFFFF#64)

end Sys2Proof.Machine
end

