-- ==== Sys2Proof/Machine/State.lean ====
section
/-! DEFINITION. The state of ECCFI as plain data (10_state R20), the reasons a step can stop, and the state after reset
(10_state R50). -/

namespace Sys2Proof.Machine

/-- Why `ABORT` is set: the field `CAUSE` (10_state R31, 60_exceptions R202). The unused codes 5 to 15 are no constructors. -/
inductive Cause where
  /-- code 0 -/
  | none
  /-- code 1, raised by SEQ step 4 -/
  | invalidPreset
  /-- code 2, raised at boot -/
  | initFailed
  /-- code 3, raised by a `WR` to `CMD` -/
  | illegalCommand
  /-- code 4, raised at the acceptance of `INJECT` -/
  | misalignedTarget
deriving DecidableEq, Repr

/-- `ECC_CTL` (10_state R33): `WORD_ADDR` in bits 23:0, `PARITY` in bits 31:24. -/
structure EccCtl where
  wordAddr : WordAddr
  parity : Byte
deriving DecidableEq, Repr

/-- The three enable flags of `RAM_CTL` (10_state R34): bits 0, 1 and 2; the reserved bits read 0 and hold nothing. -/
structure RamCtl where
  eccEn : Bool
  autoCorrect : Bool
  injEn : Bool
deriving DecidableEq, Repr

/-- The sequencer's latches (10_state R38, R39), private to SEQ and not readable on the bus (R40). -/
structure Latches where
  ta : Addr
  df : FaultCode
  pf : FaultCode
  pcor : Byte
  p1 : Byte
  p2 : Byte
  psel : Byte
  dsel : Word64
deriving DecidableEq, Repr

/-- The fault-status interface `FS` (10_state R41 to R45). -/
structure FaultStatus where
  pending : Bool
  faultAddress : Word32
  faultInfo : Word32
  errorSource : ErrorSource
  action : FaultAction
  irqEnabled : Bool
deriving DecidableEq, Repr

/-- The kinds of report the handler emits (60_exceptions R215). -/
inductive ReportKind where
  | correctable
  | noFault
  | unknown
deriving DecidableEq, Repr

/-- An event of the output trace `OUT` (10_state R46). -/
inductive Event where
  /-- a report with its kind and the three snapshot fields -/
  | report (kind : ReportKind) (addr info : Word32) (src : ErrorSource)
  /-- one toggle of the liveness signal -/
  | toggle
deriving DecidableEq, Repr

/-- One cell of `MEM`: 64 data bits and the stored 8-bit parity (10_state R47, 20_memory R66). -/
structure MemCell where
  data : Word64
  par : Byte
deriving DecidableEq, Repr

/-- `MEM`: the written cells by address, addresses strictly rising; an unlisted cell is unwritten and has no value
(10_state R47). The spec's smallest addressable unit is the cell (20_memory R60, R64; log 8). -/
abbrev Memory := List (Nat × MemCell)

/-- Whose step is next: the rows of 60_exceptions R230, and the steps of the out-of-scope startup code (70_reset R262). -/
inductive Turn where
  /-- HOST makes its next request -/
  | host
  /-- SEQ performs the protocol step `STEP` -/
  | seq
  /-- CHK evaluates the cell at `a` in the background (`CHK-BG`) -/
  | chk (a : Addr)
  /-- handler step A -/
  | hndA
  /-- handler step B -/
  | hndB
  /-- the reset of a fault whose action is Reset -/
  | rstFault
  /-- the external reset -/
  | extReset
  /-- the boot step: `INIT_OK` is drawn (70_reset R263) -/
  | boot
  /-- external code writes `FS.action` (10_state R44, 30_encoding R112) -/
  | setAction (x : FaultAction)
  /-- external code writes the interrupt mask `FS.irq_enabled` (10_state R45) -/
  | setIrqEnabled (b : Bool)
deriving DecidableEq, Repr

/-- The whole state: the tuple of 10_state R20, then the model's own five fields. -/
structure State where
  /-- `D` (R21) -/
  d : Word64
  /-- `A` (R22) -/
  a : Addr
  /-- `W` (R23) -/
  w : Word128
  /-- `P` (R24) -/
  p : Byte
  /-- `STEP`, the step counter (R27) -/
  stepCtr : BitVec 4
  /-- `BUSY` (R29) -/
  busy : Bool
  /-- `ABORT` (R30) -/
  abort : Bool
  /-- `CAUSE` (R31) -/
  cause : Cause
  /-- `IN_HANDLER` (R32) -/
  inHandler : Bool
  /-- `ECC_CTL` (R33) -/
  eccCtl : EccCtl
  /-- `RAM_CTL` (R34) -/
  ramCtl : RamCtl
  /-- the sequencer latches (R38, R39) -/
  lat : Latches
  /-- the fault-status interface `FS` (R41 to R45) -/
  fs : FaultStatus
  /-- the output trace `OUT`, oldest first (R46) -/
  out : List Event
  /-- the memory bank `MEM` (R47) -/
  mem : Memory
  /-- the model's own: the boot step has been taken since the last reset (70_reset R263; log 7) -/
  booted : Bool
  /-- the model's own: the requests HOST still makes, next first (60_exceptions R232; log 1) -/
  hostOps : List BusWord
  /-- the model's own: the agents' turns, next first (60_exceptions R230; log 2) -/
  turns : List Turn
  /-- the model's own: what bus reads have returned to HOST, oldest first (42_control_register_ops R146; log 9) -/
  replies : List Word32
  /-- the model's own: the index of the next draw (20_memory R70; log 4) -/
  draws : Nat
deriving DecidableEq, Repr

/-- The reasons the machine stops. -/
inductive Fault where
  /-- Raised by SEQ steps 1, 6, 8 and 10 when the target `a` is not 8-byte aligned. The spec's cell accesses only ever see
  aligned addresses (20_memory R63), so no reachable state raises it. Safe (log 12). -/
  | misalignedCell (a : Addr)
deriving DecidableEq, Repr

/-- The reasons an instruction has no meaning. -/
inductive Refusal where
  /-- Raised by an arm of exec whose instruction has no meaning yet; no arm raises it now. Safe. -/
  | notModelled (mnemonic : String)
deriving DecidableEq, Repr

/-- The state right after power-on (10_state R50). The latches and the fields of `FS` but `pending` are unspecified there;
the values named here are a DESIGN CHOICE, unsafe (log 5). -/
def State.reset : State where
  d := 0
  a := 0
  w := ⟨0, 0⟩
  p := 0
  stepCtr := 0
  busy := false
  abort := false
  cause := .none
  inHandler := false
  eccCtl := ⟨0, 0⟩
  ramCtl := ⟨false, false, false⟩
  lat := ⟨0, .none, .none, 0, 0, 0, 0, 0⟩
  fs := ⟨false, 0, 0, .srcNone, .interrupt, false⟩
  out := []
  mem := []
  booted := false
  hostOps := []
  turns := []
  replies := []
  draws := 0

end Sys2Proof.Machine
end

