-- ==== Sys2Proof/Machine/Flags.lean ====
section
/-! DEFINITION. The read-out of the status and control registers (10_state R33, R34, R37) and the enabling conditions of
the agents' steps (60_exceptions R230). -/

namespace Sys2Proof.Machine

/-- The 4-bit code of a cause (10_state R31, 60_exceptions R202). -/
def causeCode : Cause → BitVec 4
  | .none => 0#4
  | .invalidPreset => 1#4
  | .initFailed => 2#4
  | .illegalCommand => 3#4
  | .misalignedTarget => 4#4

/-- `ECC_CTL` as read on the bus: `PARITY` in bits 31:24, `WORD_ADDR` in 23:0 (10_state R33). -/
def eccCtlWord (e : EccCtl) : Word32 := (e.parity.setWidth 32 <<< 24) ||| e.wordAddr.setWidth 32

/-- `RAM_CTL` as read on the bus: the flags in bits 2, 1, 0, the rest 0 (10_state R34). -/
def ramCtlWord (r : RamCtl) : Word32 :=
  ((BitVec.ofBool r.injEn).setWidth 32 <<< 2) ||| ((BitVec.ofBool r.autoCorrect).setWidth 32 <<< 1) |||
    (BitVec.ofBool r.eccEn).setWidth 32

/-- `STATUS` as read on the bus: STEP in bits 11:8, CAUSE in 7:4, ABORT in 1, BUSY in 0 (10_state R37). -/
def statusWord (s : State) : Word32 :=
  (s.stepCtr.setWidth 32 <<< 8) ||| ((causeCode s.cause).setWidth 32 <<< 4) |||
    ((BitVec.ofBool s.abort).setWidth 32 <<< 1) ||| (BitVec.ofBool s.busy).setWidth 32

/-- All three flags set: the armed `RAM_CTL` (42_control_register_ops R156). -/
def armedFlags : RamCtl := ⟨true, true, true⟩

/-- All three flags clear: the idle `RAM_CTL` (42_control_register_ops R157). -/
def idleFlags : RamCtl := ⟨false, false, false⟩

/-- The predicate `ARMED` (10_state R35). -/
def isArmed (s : State) : Bool := s.ramCtl.injEn

/-- The cell at an address, if it has been written (10_state R47). -/
def cellAt : Memory → Nat → Option MemCell
  | [], _ => none
  | (k, x) :: m, a => if a = k then some x else cellAt m a

/-- `syn(a)` of a cell: the parity of its data against the stored one (20_memory R66). -/
def syndrome (c : Params) (a : Addr) (x : MemCell) : Byte := ecc c x.data a ^^^ x.par

/-- The corrected pair of the cell `x` at `a`: the corrected data with their correct parity (20_memory R74). -/
def correctedCell (c : Params) (a : Addr) (x : MemCell) (free : Word64) : MemCell :=
  let d := correctedData c.rows (syndrome c a x) x.data free
  ⟨d, ecc c d a⟩

/-- HOST has a step: not in the handler (60_exceptions R230), and only once the boot step is over (70_reset R263). -/
def hostEnabled (s : State) : Bool := s.booted && !s.inHandler

/-- SEQ has a step: the state is busy, neither aborted nor in the handler, and `STEP` is a protocol step (60_exceptions R230). -/
def seqEnabled (s : State) : Bool :=
  s.busy && !s.abort && !s.inHandler && decide (1 ≤ s.stepCtr.toNat) && decide (s.stepCtr.toNat ≤ 10)

/-- `CHK-BG(a)` is enabled (20_memory R75, 60_exceptions R230). -/
def chkEnabled (c : Params) (a : Addr) (s : State) : Bool :=
  c.bgCheck && !s.abort && s.ramCtl.eccEn && !s.fs.pending &&
    match cellAt s.mem a.toNat with
    | none => false
    | some x => syndrome c a x != 0#8

/-- Handler step A is enabled (60_exceptions R214). -/
def hndAEnabled (s : State) : Bool :=
  s.fs.pending && s.fs.action == .interrupt && s.fs.irqEnabled && !s.inHandler && !s.abort

/-- Handler step B is enabled exactly while in the handler (60_exceptions R216; log 14). -/
def hndBEnabled (s : State) : Bool := s.inHandler

/-- `RST-FAULT` is enabled: a fault is pending whose action is Reset (60_exceptions R222). -/
def rstFaultEnabled (s : State) : Bool := s.fs.pending && s.fs.action == .reset

/-- The boot step is enabled once after each reset (70_reset R263; log 7). -/
def bootEnabled (s : State) : Bool := !s.booted

/-- External code may configure `FS`: any time the block is not aborted (10_state R30, R44, R45; log 15). -/
def configEnabled (s : State) : Bool := !s.abort

end Sys2Proof.Machine
end

