-- ==== Sys2Proof/Machine/Ops.lean ====
section
/-! DEFINITION. The named operations over the state: single-field updates, memory, the checker, taking an abort, the
handler's entry and return, reset and boot, the register map. Every meaning is written over these. -/

namespace Sys2Proof.Machine

/-! ### Single-field updates -/

/-- `D <- x`. -/
def State.setD (s : State) (x : Word64) : State := { s with d := x }
/-- `A <- x`. -/
def State.setA (s : State) (x : Addr) : State := { s with a := x }
/-- `W <- x`. -/
def State.setW (s : State) (x : Word128) : State := { s with w := x }
/-- `P <- x`. -/
def State.setP (s : State) (x : Byte) : State := { s with p := x }
/-- `STEP <- n` (00_scope R12). -/
def State.setStep (s : State) (n : BitVec 4) : State := { s with stepCtr := n }
/-- `BUSY <- b`. -/
def State.setBusy (s : State) (b : Bool) : State := { s with busy := b }
/-- `IN_HANDLER <- b`. -/
def State.setInHandler (s : State) (b : Bool) : State := { s with inHandler := b }
/-- The fields of `ECC_CTL` written. -/
def State.setEccCtl (s : State) (x : EccCtl) : State := { s with eccCtl := x }
/-- The three flags of `RAM_CTL` written together (10_state R35). -/
def State.setRamCtl (s : State) (x : RamCtl) : State := { s with ramCtl := x }
/-- The sequencer latches written. -/
def State.setLat (s : State) (x : Latches) : State := { s with lat := x }
/-- The fault-status interface written. -/
def State.setFs (s : State) (x : FaultStatus) : State := { s with fs := x }
/-- `OUT += es` (00_scope R12). -/
def State.emit (s : State) (es : List Event) : State := { s with out := s.out ++ es }
/-- `MEM` written. -/
def State.setMem (s : State) (m : Memory) : State := { s with mem := m }
/-- The boot step is over, or due again. -/
def State.setBooted (s : State) (b : Bool) : State := { s with booted := b }
/-- HOST's remaining requests. -/
def State.setHostOps (s : State) (ws : List BusWord) : State := { s with hostOps := ws }
/-- The remaining turns. -/
def State.setTurns (s : State) (ts : List Turn) : State := { s with turns := ts }
/-- A value returned to HOST by a bus read. -/
def State.reply (s : State) (v : Word32) : State := { s with replies := s.replies ++ [v] }
/-- `n` draws have been taken. -/
def State.tookDraws (s : State) (n : Nat) : State := { s with draws := s.draws + n }

/-! ### Memory -/

/-- The canonical form of `MEM`: addresses strictly rising, each an 8-byte-aligned 32-bit address (10_state R47). -/
def Memory.wf (m : Memory) : Bool :=
  decide (m.Pairwise (fun x y => x.1 < y.1)) && m.all (fun e => e.1 % 8 == 0 && decide (e.1 < 2 ^ 32))

/-- The memory after the cell at `a` has become `x`; the canonical form is kept. -/
def storeCell : Memory → Nat → MemCell → Memory
  | [], a, x => [(a, x)]
  | (k, y) :: m, a, x =>
    if a < k then (a, x) :: (k, y) :: m
    else if a = k then (a, x) :: m
    else (k, y) :: storeCell m a x

/-- The byte view of a shared memory: byte `k` of the cell at `a` is `data[8k+7:8k]` at `a + k` (20_memory R61). -/
def byteAt (m : Memory) (a : Nat) : Option Byte :=
  (cellAt m (a - a % 8)).map (fun x => x.data.extractLsb' (8 * (a % 8)) 8)

/-- The `hit` test of a write: injection armed and the word monitored (20_memory R67). -/
def injectionHit (c : Params) (s : State) (a : Addr) : Bool :=
  s.ramCtl.injEn && wordAddr24 c a == s.eccCtl.wordAddr

/-- `MemWrite(a, 8, v)`: data and parity together, the parity injected on a hit (20_memory R67). -/
def memWrite (c : Params) (a : Addr) (v : Word64) (s : State) : State :=
  s.setMem (storeCell s.mem a.toNat ⟨v, if injectionHit c s a then s.eccCtl.parity else ecc c v a⟩)

/-! ### The checker -/

/-- The source a captured fault is reported with (20_memory R69). -/
def sourceOf : SyndromeClass → ErrorSource
  | .single => .srcCorrectable
  | .multi => .srcUncorrectable

/-- `Capture(s)`: the first fault is kept while one is pending (20_memory R69). -/
def capture (c : Params) (syn : Byte) (s : State) : State :=
  if s.fs.pending then s
  else
    (s.setFs { s.fs with
      pending := true
      errorSource := sourceOf (c.classify syn)
      faultAddress := Config.drawWord32 s.draws
      faultInfo := Config.drawWord32 (s.draws + 1) }).tookDraws 2

/-- `clearInterrupt()`: nothing pending, the record's three fields become draws (42_control_register_ops R158). -/
def clearInterrupt (s : State) : State :=
  (s.setFs { s.fs with
    pending := false
    faultAddress := Config.drawWord32 s.draws
    faultInfo := Config.drawWord32 (s.draws + 1)
    errorSource := Config.drawSource (s.draws + 2) }).tookDraws 3

/-- The draw that stands for corrected data the spec does not state: one of the three canonical values for a cell that holds
one of them, the bound 10_state R51 sets (log 11). -/
def correctionDraw (d : Word64) (n : Nat) : Word64 :=
  if isCanonical d then faultedData (Config.drawCode n) else Config.drawWord64 n

/-- What `AUTO_CORRECT` may do after a fault classified Single: a free bit chooses between leaving the cell and rewriting it
to the corrected pair, whatever that pair is (20_memory R74; log 11). -/
def autoCorrect (c : Params) (a : Addr) (x : MemCell) (s : State) : State :=
  if s.ramCtl.autoCorrect && c.classify (syndrome c a x) == .single then
    let y := correctedCell c a x (correctionDraw x.data (s.draws + 1))
    (s.setMem (if Config.drawBit s.draws then storeCell s.mem a.toNat y else s.mem)).tookDraws 2
  else s

/-- A fault found in the cell at `a`: captured, and possibly corrected (20_memory R68, R74). -/
def faultFound (c : Params) (a : Addr) (x : MemCell) (s : State) : State :=
  autoCorrect c a x (capture c (syndrome c a x) s)

/-- `MemRead(a, 8)`: the value and the state after; the check is gated by `ECC_EN`, an unwritten cell is not checked, and a
faulting or unwritten cell's value is a draw (20_memory R68, R73, R83). -/
def memRead (c : Params) (a : Addr) (s : State) : Word64 × State :=
  match cellAt s.mem a.toNat with
  | none => (Config.drawWord64 s.draws, s.tookDraws 1)
  | some x =>
    if s.ramCtl.eccEn && syndrome c a x != 0#8 then
      let t := faultFound c a x s
      (Config.drawWord64 t.draws, t.tookDraws 1)
    else (x.data, s)

/-- The background evaluation `CHK-BG(a)` (20_memory R75). -/
def backgroundCheck (c : Params) (a : Addr) (s : State) : State :=
  match cellAt s.mem a.toNat with
  | none => s
  | some x => faultFound c a x s

/-! ### Exceptions: the abort, the handler's entry and return, reset and boot -/

/-- `raise Abort(cause)`: the one synchronous exception. No register is saved and no vector taken; `STEP` is unchanged
(60_exceptions R201). -/
def raiseAbort (x : Cause) (s : State) : State := { s with abort := true, cause := x, busy := false }

/-- The kind of report for a classification (60_exceptions R215). -/
def reportKind : ErrorSource → ReportKind
  | .srcCorrectable => .correctable
  | .srcNone => .noFault
  | .srcUncorrectable => .unknown
  | .other _ => .unknown

/-- The events of one handler invocation: the report of the snapshot, then the toggles (60_exceptions R215). -/
def handlerEvents (c : Params) (f : FaultStatus) : List Event :=
  .report (reportKind f.errorSource) f.faultAddress f.faultInfo f.errorSource ::
    List.replicate c.toggleCount .toggle

/-- Handler step A: entry, snapshot, report, liveness, clear (60_exceptions R215). -/
def handlerStepA (c : Params) (s : State) : State :=
  clearInterrupt ((s.setInHandler true).emit (handlerEvents c s.fs))

/-- Handler step B: disarm and return (60_exceptions R216). -/
def handlerStepB (s : State) : State := (s.setRamCtl idleFlags).setInHandler false

/-- A reset step (70_reset R250): every register at its reset value, what the spec leaves unspecified a draw (log 6), `OUT`
kept (R252), and with it the outside world's own lists (log 19). -/
def resetStep (s : State) : State :=
  { State.reset with
    lat := ⟨Config.drawWord32 s.draws, Config.drawCode s.draws, Config.drawCode (s.draws + 1), Config.drawByte s.draws,
      Config.drawByte (s.draws + 1), Config.drawByte (s.draws + 2), Config.drawByte (s.draws + 3),
      Config.drawWord64 s.draws⟩
    fs := ⟨false, Config.drawWord32 (s.draws + 1), Config.drawWord32 (s.draws + 2), Config.drawSource s.draws,
      Config.drawAction s.draws, Config.drawBit s.draws⟩
    out := s.out
    hostOps := s.hostOps
    turns := s.turns
    replies := s.replies
    draws := s.draws + 4 }

/-- The boot step: `INIT_OK` is drawn, and false is `Abort(InitFailed)` (70_reset R263). -/
def bootStep (s : State) : State :=
  let t := (s.setBooted true).tookDraws 1
  if Config.initOk s.draws then t else raiseAbort .initFailed t

/-! ### The register map -/

/-- `BusRead(r)` (42_control_register_ops R146, 10_state R52). -/
def busRead (s : State) (r : RegIndex) : Word32 :=
  match r.toNat with
  | 0 => eccCtlWord s.eccCtl
  | 1 => ramCtlWord s.ramCtl
  | 2 => lowHalf s.d
  | 3 => highHalf s.d
  | 4 => s.a
  | 5 => lowHalf s.w.low
  | 6 => highHalf s.w.low
  | 7 => lowHalf s.w.high
  | 8 => highHalf s.w.high
  | 9 => s.p.setWidth 32
  | 11 => statusWord s
  | _ => 0#32

/-- `BusWrite(r, v)` for every index but `CMD`; a read-only or unmapped index is ignored (42_control_register_ops R147,
30_encoding R99). -/
def busWriteReg (r : RegIndex) (v : Word32) (s : State) : State :=
  match r.toNat with
  | 2 => s.setD (withLowHalf s.d v)
  | 3 => s.setD (withHighHalf s.d v)
  | 4 => s.setA v
  | 5 => s.setW { s.w with low := withLowHalf s.w.low v }
  | 6 => s.setW { s.w with low := withHighHalf s.w.low v }
  | 7 => s.setW { s.w with high := withLowHalf s.w.high v }
  | 8 => s.setW { s.w with high := withHighHalf s.w.high v }
  | 9 => s.setP (v.setWidth 8)
  | _ => s

/-- A HOST write of any kind: ignored while busy or aborted (42_control_register_ops R148). -/
def hostWrite (f : State → State) (s : State) : State :=
  if s.busy || s.abort then s else f s

end Sys2Proof.Machine
end

