-- ==== Sys2Proof/Machine/Codeword.lean ====
section
/-! DEFINITION. The Codeword Builder's command (40_codeword_builder). -/

namespace Sys2Proof.Machine

/-- `W <- CWBUILD(D, A)` (40_codeword_builder R123). -/
def cwbuildEffect (c : Params) (s : State) : State := s.setW (codeword c s.d s.a)

/-- `CWBUILD` (40_codeword_builder R123). -/
def execCwbuild (s : State) : Host.Outcome State Fault Refusal :=
  .next (hostWrite (cwbuildEffect Config.device) s)

end Sys2Proof.Machine
end

