-- ==== Sys2Proof/Machine/Control.lean ====
section
/-! DEFINITION. The typed setters and `CLRINT` (42_control_register_ops section 2). -/

namespace Sys2Proof.Machine

/-- `ECC_CTL.WORD_ADDR <- wordaddr(A)[23:0]` (42_control_register_ops R154). -/
def setaddrEffect (c : Params) (s : State) : State := s.setEccCtl { s.eccCtl with wordAddr := wordAddr24 c s.a }

/-- `ECC_CTL.PARITY <- P` (42_control_register_ops R155). -/
def setparEffect (s : State) : State := s.setEccCtl { s.eccCtl with parity := s.p }

/-- The three flags to 1 in one step (42_control_register_ops R156). -/
def armEffect (s : State) : State := s.setRamCtl armedFlags

/-- The three flags to 0 in one step (42_control_register_ops R157). -/
def disarmEffect (s : State) : State := s.setRamCtl idleFlags

/-- `clearInterrupt()` as a command (42_control_register_ops R158). -/
def clrintEffect (s : State) : State := clearInterrupt s

/-- `SETADDR` (42_control_register_ops R154). -/
def execSetaddr (s : State) : Host.Outcome State Fault Refusal :=
  .next (hostWrite (setaddrEffect Config.device) s)

/-- `SETPAR` (42_control_register_ops R155). -/
def execSetpar (s : State) : Host.Outcome State Fault Refusal := .next (hostWrite setparEffect s)

/-- `ARM` (42_control_register_ops R156). -/
def execArm (s : State) : Host.Outcome State Fault Refusal := .next (hostWrite armEffect s)

/-- `DISARM` (42_control_register_ops R157). -/
def execDisarm (s : State) : Host.Outcome State Fault Refusal := .next (hostWrite disarmEffect s)

/-- `CLRINT` (42_control_register_ops R158). -/
def execClrint (s : State) : Host.Outcome State Fault Refusal := .next (hostWrite clrintEffect s)

end Sys2Proof.Machine
end

