-- ==== Sys2Proof/Machine/Inject.lean ====
section
/-! DEFINITION. The Fault Injector: the acceptance of `INJECT` and the ten protocol steps of SEQ (43_fault_injector). -/

namespace Sys2Proof.Machine

/-- The acceptance of `INJECT`: `Abort(MisalignedTarget)`, or the latches, `BUSY` and `STEP` (43_fault_injector R171). -/
def injectEffect (dd pp : FaultCode) (s : State) : State :=
  if aligned8 s.a then
    ((s.setLat { s.lat with ta := s.a, df := dd, pf := pp }).setBusy true).setStep 1#4
  else raiseAbort .misalignedTarget s

/-- `INJECT dd, pp` (43_fault_injector R171). -/
def execInject (dd pp : FaultCode) (s : State) : Host.Outcome State Fault Refusal :=
  .next (hostWrite (injectEffect dd pp) s)

/-- A step that accesses the target cell: `t` if the latched address is aligned, else the fault of log 12. -/
def onTarget (s t : State) : Host.Outcome State Fault Refusal :=
  if aligned8 s.lat.ta then .next t else .fault (.misalignedCell s.lat.ta)

/-- Step 1: `CORRECT` is written to the cell (43_fault_injector R173). -/
def seqWriteCorrect (c : Params) (s : State) : Host.Outcome State Fault Refusal :=
  onTarget s ((memWrite c s.lat.ta correctWord s).setStep 2#4)

/-- Step 2: the correct parity (43_fault_injector R174). -/
def seqCorrectParity (c : Params) (s : State) : State :=
  (s.setLat { s.lat with pcor := ecc c correctWord s.lat.ta }).setStep 3#4

/-- Step 3: the two wrong parities (43_fault_injector R175). -/
def seqWrongParities (s : State) : State :=
  (s.setLat { s.lat with p1 := s.lat.pcor ^^^ 1#8, p2 := s.lat.pcor ^^^ 3#8 }).setStep 4#4

/-- Step 4: the preset is checked, then the parity selected (43_fault_injector R176). -/
def seqSelectParity (s : State) : State :=
  if legalPreset s.lat.df s.lat.pf then
    (s.setLat { s.lat with psel := selectParity s.lat.pf s.lat.pcor s.lat.p1 s.lat.p2 }).setStep 5#4
  else raiseAbort .invalidPreset s

/-- Step 5: the data selected (43_fault_injector R178). -/
def seqSelectData (s : State) : State :=
  (s.setLat { s.lat with dsel := faultedData s.lat.df }).setStep 6#4

/-- Step 6: the selected data is written to the cell (43_fault_injector R179). -/
def seqWriteData (c : Params) (s : State) : Host.Outcome State Fault Refusal :=
  onTarget s ((memWrite c s.lat.ta s.lat.dsel s).setStep 7#4)

/-- Step 7: the injection-control interface is programmed and armed (43_fault_injector R180). -/
def seqProgram (c : Params) (s : State) : State :=
  ((s.setEccCtl ⟨wordAddr24 c s.lat.ta, s.lat.psel⟩).setRamCtl armedFlags).setStep 8#4

/-- Step 8: the data is written again, now a hit if still armed (43_fault_injector R181). -/
def seqRewrite (c : Params) (s : State) : Host.Outcome State Fault Refusal :=
  onTarget s ((memWrite c s.lat.ta s.lat.dsel s).setStep 9#4)

/-- Step 9: the settle delay (43_fault_injector R182). -/
def seqSettle (s : State) : State := s.setStep 10#4

/-- Step 10: the cell is read back, the value discarded (43_fault_injector R183). -/
def seqReadBack (c : Params) (s : State) : Host.Outcome State Fault Refusal :=
  onTarget s (((memRead c s.lat.ta s).2.setBusy false).setStep 0#4)

/-- The protocol step that `STEP` names; none for 0 and above 10 (10_state R27). -/
def seqStep (c : Params) (s : State) : Host.Outcome State Fault Refusal :=
  match s.stepCtr.toNat with
  | 1 => seqWriteCorrect c s
  | 2 => .next (seqCorrectParity c s)
  | 3 => .next (seqWrongParities s)
  | 4 => .next (seqSelectParity s)
  | 5 => .next (seqSelectData s)
  | 6 => seqWriteData c s
  | 7 => .next (seqProgram c s)
  | 8 => seqRewrite c s
  | 9 => .next (seqSettle s)
  | 10 => seqReadBack c s
  | _ => .next s

end Sys2Proof.Machine
end

