-- ==== Sys2Proof/Machine/Parity.lean ====
section
/-! DEFINITION. The Parity Generator's commands (41_parity_generator). -/

namespace Sys2Proof.Machine

/-- `P <- PARGEN(W)` (41_parity_generator R132). -/
def pargenEffect (c : Params) (s : State) : State := s.setP (parGen c.rows s.w)

/-- `W <- CWBUILD(D, A)`, then `P <- PARGEN` of the new `W` (41_parity_generator R135). -/
def eccgenEffect (c : Params) (s : State) : State :=
  let t := s.setW (codeword c s.d s.a)
  t.setP (parGen c.rows t.w)

/-- `PARGEN` (41_parity_generator R132). -/
def execPargen (s : State) : Host.Outcome State Fault Refusal :=
  .next (hostWrite (pargenEffect Config.device) s)

/-- `ECCGEN` (41_parity_generator R135). -/
def execEccgen (s : State) : Host.Outcome State Fault Refusal :=
  .next (hostWrite (eccgenEffect Config.device) s)

end Sys2Proof.Machine
end

