-- ==== Sys2Proof/Machine/Bus.lean ====
section
/-! DEFINITION. The two bus operations and command issue (42_control_register_ops section 1, 30_encoding R93). -/

namespace Sys2Proof.Machine

/-- A decoded command performed (30_encoding R93, R94). The decoder of commands never gives a bus operation; as data of a
write to `CMD` one would be no legal command. -/
def performCommand (c : Params) (i : Instr) (s : State) : State :=
  match i with
  | .rd _ => raiseAbort .illegalCommand s
  | .wr _ _ => raiseAbort .illegalCommand s
  | .cwbuild => cwbuildEffect c s
  | .pargen => pargenEffect c s
  | .eccgen => eccgenEffect c s
  | .inject dd pp => injectEffect dd pp s
  | .setaddr => setaddrEffect c s
  | .setpar => setparEffect s
  | .arm => armEffect s
  | .disarm => disarmEffect s
  | .clrint => clrintEffect s

/-- The command `v` issued: decoded and performed in one step, or `Abort(IllegalCommand)` (30_encoding R93, R98). -/
def issueCommand (c : Params) (v : Word32) (s : State) : State :=
  match decodeCommand v with
  | .ok i => performCommand c i s
  | .error _ => raiseAbort .illegalCommand s

/-- `BusWrite(r, v)`: a write to `CMD` issues a command, any other is a register write (42_control_register_ops R147). -/
def busWrite (c : Params) (r : RegIndex) (v : Word32) (s : State) : State :=
  if r = cmdIndex then issueCommand c v s else busWriteReg r v s

/-- `RD reg`: the value goes to HOST and no state of the block changes, busy or aborted or not (42_control_register_ops
R146). -/
def execRd (r : RegIndex) (s : State) : Host.Outcome State Fault Refusal :=
  .next (s.reply (busRead s r))

/-- `WR reg, v` (42_control_register_ops R147, R148). -/
def execWr (r : RegIndex) (v : Word32) (s : State) : Host.Outcome State Fault Refusal :=
  .next (hostWrite (busWrite Config.device r v) s)

end Sys2Proof.Machine
end

