-- ==== Sys2Proof/Machine/Dispatch.lean ====
section
/-! DEFINITION. exec: one arm per constructor of Instr, each one direct call of its meaning. -/

namespace Sys2Proof.Machine

/-- What an operation of HOST does to a state in which HOST has a step (60_exceptions R230; log 13). -/
def exec (i : Instr) (s : State) : Host.Outcome State Fault Refusal :=
  match i with
  | .rd r => Sys2Proof.Machine.execRd r s
  | .wr r v => Sys2Proof.Machine.execWr r v s
  | .cwbuild => Sys2Proof.Machine.execCwbuild s
  | .pargen => Sys2Proof.Machine.execPargen s
  | .eccgen => Sys2Proof.Machine.execEccgen s
  | .inject dd pp => Sys2Proof.Machine.execInject dd pp s
  | .setaddr => Sys2Proof.Machine.execSetaddr s
  | .setpar => Sys2Proof.Machine.execSetpar s
  | .arm => Sys2Proof.Machine.execArm s
  | .disarm => Sys2Proof.Machine.execDisarm s
  | .clrint => Sys2Proof.Machine.execClrint s

end Sys2Proof.Machine
end

