-- ==== Sys2Proof/Machine/Schedule.lean ====
section
/-! DEFINITION. Whose step is next (60_exceptions R230, R231): the order of turns is data in the state, so every
interleaving the spec admits is some state's. -/

namespace Sys2Proof.Machine

/-- HOST's step: its next request, decoded and executed, when HOST has a step; else the request waits (60_exceptions R230). -/
def hostTurn (s : State) : Host.Outcome State Fault Refusal :=
  if hostEnabled s then
    match s.hostOps with
    | [] => .next s
    | w :: ws => exec (decodeBus w) (s.setHostOps ws)
  else .next s

/-- One agent's turn: its step if that is enabled, else nothing happens (60_exceptions R230; log 2). -/
def takeTurn (t : Turn) (s : State) : Host.Outcome State Fault Refusal :=
  match t with
  | .host => hostTurn s
  | .seq => if seqEnabled s then seqStep Config.device s else .next s
  | .chk a => .next (if chkEnabled Config.device a s then backgroundCheck Config.device a s else s)
  | .hndA => .next (if hndAEnabled s then handlerStepA Config.device s else s)
  | .hndB => .next (if hndBEnabled s then handlerStepB s else s)
  | .rstFault => .next (if rstFaultEnabled s then resetStep s else s)
  | .extReset => .next (resetStep s)
  | .boot => .next (if bootEnabled s then bootStep s else s)
  | .setAction x => .next (if configEnabled s then s.setFs { s.fs with action := x } else s)
  | .setIrqEnabled b => .next (if configEnabled s then s.setFs { s.fs with irqEnabled := b } else s)

/-- The turn taken when the list of turns is empty: the schedule of 95_test_vectors section 5 (SEQ runs until it is done,
then the handler, then HOST's next request), which keeps the weak fairness of 60_exceptions R231. None when no agent but
the outside has a step (log 2). -/
def defaultTurn (s : State) : Option Turn :=
  if bootEnabled s then some .boot
  else if rstFaultEnabled s then some .rstFault
  else if seqEnabled s then some .seq
  else if hndBEnabled s then some .hndB
  else if hndAEnabled s then some .hndA
  else if hostEnabled s && !s.hostOps.isEmpty then some .host
  else none

/-- The machine's next step: the first listed turn, or the default one, or waiting (70_reset R253). -/
def nextStep (s : State) : Host.Outcome State Fault Refusal :=
  match s.turns with
  | t :: ts => takeTurn t (s.setTurns ts)
  | [] =>
    match defaultTurn s with
    | some t => takeTurn t s
    | none => .next s

/-- The state in which HOST's request `w` is the very next step: it is HOST's first request, HOST has the first turn, the
boot step is over and no handler runs (log 1). -/
def placeRequest (s : State) (w : BusWord) : State :=
  (((s.setHostOps (w :: s.hostOps)).setTurns (.host :: s.turns)).setBooted true).setInHandler false

end Sys2Proof.Machine
end

