-- ==== Sys2Proof/Machine/Step.lean ====
section
/-! DEFINITION. One step of the machine, and the placing of one request. -/

namespace Sys2Proof.Machine

/-- One step: one atomic transition by one agent (00_scope R14). -/
def step (s : State) : Host.Outcome State Fault Refusal := nextStep s

/-- `s` with the operation of an opcode-table word placed where the next step takes it (log 1, log 16). -/
def State.withFetchWord (s : State) (nbits w : Nat) : State := placeRequest s (busWordOf nbits w)

end Sys2Proof.Machine
end

