-- ==== Sys2Proof/Machine/Pseudo.lean ====
section
/-! DEFINITION. The pseudo-operations of 30_encoding R112: sequences of requests, and the two menu presets. -/

namespace Sys2Proof.Machine

/-- `LDD v64`: `WR D_LO` then `WR D_HI` (30_encoding R112). -/
def pseudoLdd (v : Word64) : List BusWord :=
  [encode (.wr 2#4 (lowHalf v)), encode (.wr 3#4 (highHalf v))]

/-- `LDA v32`: `WR A` (30_encoding R112). -/
def pseudoLda (v : Word32) : List BusWord := [encode (.wr 4#4 v)]

/-- `LDW lo64, hi64`: `WR W0` to `WR W3` (30_encoding R112). -/
def pseudoLdw (lo hi : Word64) : List BusWord :=
  [encode (.wr 5#4 (lowHalf lo)), encode (.wr 6#4 (highHalf lo)), encode (.wr 7#4 (lowHalf hi)),
    encode (.wr 8#4 (highHalf hi))]

/-- The one preset of the menu: `INJECT None, OneBit` (30_encoding R112). -/
def menuPreset : BusWord := encode (.inject .none .oneBit)

/-- HOST's next requests become `ws`, each with its turn, before what was listed already. -/
def withRequests (ws : List BusWord) (s : State) : State :=
  (s.setHostOps (ws ++ s.hostOps)).setTurns (ws.map (fun _ => Turn.host) ++ s.turns)

/-- `GENCI`: `FS.action <- Interrupt` from outside, then the menu preset (30_encoding R112). -/
def pseudoGenci (s : State) : State :=
  (s.setHostOps (menuPreset :: s.hostOps)).setTurns (.setAction .interrupt :: .host :: s.turns)

/-- `GENCR`: `FS.action <- Reset` from outside, then the menu preset (30_encoding R112). -/
def pseudoGencr (s : State) : State :=
  (s.setHostOps (menuPreset :: s.hostOps)).setTurns (.setAction .reset :: .host :: s.turns)

end Sys2Proof.Machine
end

