-- ==== Sys2Proof/Safety.lean ====
section
/-! DEFINITION. The predicates claims are stated in: the block's own state, the invariants of a well-behaved state, the
end of a run, and the named SEC-DED property of a matrix. -/

namespace Sys2Proof.Machine

/-- The tuple of 10_state R20: the state with the model's own five fields blotted out, so that `blockOf s = blockOf t` says
that no state of the block differs. -/
def blockOf (s : State) : State :=
  { s with booted := false, hostOps := [], turns := [], replies := [], draws := 0 }

/-- `ECC_EN = AUTO_CORRECT = INJ_EN` (10_state R35). -/
def flagsAgree (s : State) : Prop :=
  s.ramCtl.eccEn = s.ramCtl.autoCorrect ∧ s.ramCtl.autoCorrect = s.ramCtl.injEn

/-- How the status flags and the step counter belong together (10_state R27 to R32, 60_exceptions R201, 70_reset R263). -/
structure StatusOk (s : State) : Prop where
  busyStep : s.busy = true → 1 ≤ s.stepCtr.toNat ∧ s.stepCtr.toNat ≤ 10
  idleStep : s.busy = false → s.abort = false → s.stepCtr = 0#4
  abortIdle : s.abort = true → s.busy = false ∧ s.inHandler = false
  abortCause : s.abort = true ↔ s.cause ≠ .none
  abortStep : s.abort = true → s.stepCtr = if s.cause = .invalidPreset then 4#4 else 0#4
  unbooted : s.booted = false →
    s.busy = false ∧ s.abort = false ∧ s.inHandler = false ∧ s.fs.pending = false ∧ s.ramCtl.eccEn = false

/-- What the latches hold while a run is in progress, each from the step after the one that writes it (10_state R38 to R40,
43_fault_injector R171 to R178). -/
structure LatchesOk (c : Params) (s : State) : Prop where
  target : s.busy = true → aligned8 s.lat.ta = true
  pcor : s.busy = true → 3 ≤ s.stepCtr.toNat → s.lat.pcor = ecc c correctWord s.lat.ta
  wrong : s.busy = true → 4 ≤ s.stepCtr.toNat → s.lat.p1 = s.lat.pcor ^^^ 1#8 ∧ s.lat.p2 = s.lat.pcor ^^^ 3#8
  preset : s.busy = true → 5 ≤ s.stepCtr.toNat → legalPreset s.lat.df s.lat.pf = true
  psel : s.busy = true → 5 ≤ s.stepCtr.toNat → s.lat.psel = s.lat.pcor ^^^ flipMask s.lat.pf
  dsel : s.busy = true → 6 ≤ s.stepCtr.toNat → s.lat.dsel = faultedData s.lat.df

/-- The model's invariant: it holds at reset and every step keeps it. -/
structure Inv (s : State) : Prop where
  memory : Memory.wf s.mem = true
  flags : flagsAgree s
  status : StatusOk s
  latches : LatchesOk Config.device s

/-- One of the three canonical data values (10_state R51). -/
def canonicalData (v : Word64) : Prop :=
  v = 0x5A5A5A5A5A5A5A5A#64 ∨ v = 0x5A5A5A5A5A5A5A5B#64 ∨ v = 0x5A5A5A5A5A5A5A59#64

/-- Every written cell holds one of the three canonical data values (10_state R51). -/
def cellsCanonical (s : State) : Prop :=
  ∀ a x, cellAt s.mem a = some x → canonicalData x.data

/-- The syndrome `syn` is the column of data bit `j` and of no other data or parity bit: `j` is the one indicated data bit of
20_memory R74. -/
def indicatesDataBit (rows : Fin 8 → Word128) (syn : Byte) (j : Nat) : Prop :=
  j < 64 ∧ ∀ l, l < 64 ∨ (128 ≤ l ∧ l < 136) → (extColumn rows l = syn ↔ l = j)

/-- The cell `x` at `a` became `y` by the automatic correction of one indicated data bit (20_memory R74): the one way in
which a canonical value can be followed by another than the three (10_state R51; log 11). -/
def bitCorrected (c : Params) (a : Nat) (x y : MemCell) (s : State) : Prop :=
  let syn := ecc c x.data (BitVec.ofNat 32 a) ^^^ x.par
  s.ramCtl.autoCorrect = true ∧ c.classify syn = .single ∧
    ∃ j, indicatesDataBit c.rows syn j ∧ y.data = x.data ^^^ 1#64 <<< j ∧ y.par = ecc c y.data (BitVec.ofNat 32 a)

/-- What a fault found in the cell `x` at `a` may leave of `MEM`: the memory as it was or, for a correctable fault with
`AUTO_CORRECT` set, the cell rewritten to its corrected data with their correct parity (20_memory R74). `free` stands where
the spec states no corrected data, one of the three values of 10_state R51 for a cell that holds one (log 11). -/
def mayBecome (c : Params) (a : Addr) (x : MemCell) (s : State) (m : Memory) : Prop :=
  m = s.mem ∨
    (s.ramCtl.autoCorrect = true ∧ c.classify (ecc c x.data a ^^^ x.par) = .single ∧
      ∃ free d, d = correctedData c.rows (ecc c x.data a ^^^ x.par) x.data free ∧
        (canonicalData x.data → canonicalData free) ∧ m = storeCell s.mem a.toNat ⟨d, ecc c d a⟩)

/-- A run is over: HOST's list is exhausted and neither SEQ, the handler nor a fault reset has work (60_exceptions R232). -/
def runOver (s : State) : Bool :=
  s.hostOps.isEmpty && !s.busy && !s.inHandler && !s.abort && !hndAEnabled s && !rstFaultEnabled s

/-- The positions of `[H | I8]` that can be non-zero, where `BANK_MASK = 2^k - 1`: data bits, word-address bits 64 to
`64 + k - 4`, parity bits 128 to 135 (20_memory R72). -/
def livePosition (k j : Nat) : Prop := j < 64 + (k - 3) ∨ (128 ≤ j ∧ j < 136)

/-- The named property `SECDED(H)` (20_memory R72): the live columns are non-zero, pairwise distinct, and the XOR of any two
is not a column of `[H | I8]`, live or not. -/
structure Secded (rows : Fin 8 → Word128) (k : Nat) : Prop where
  nonzero : ∀ i, livePosition k i → extColumn rows i ≠ 0#8
  distinct : ∀ i j, livePosition k i → livePosition k j → i ≠ j → extColumn rows i ≠ extColumn rows j
  sums : ∀ i j l, livePosition k i → livePosition k j → i ≠ j → l < 136 →
    extColumn rows i ^^^ extColumn rows j ≠ extColumn rows l

/-- `wordaddr(a)` as a number: the offset modulo `2^32`, masked to `k` bits, divided by 8 (40_codeword_builder R121). -/
def wordAddrNumber (c : Params) (a : Addr) : Nat :=
  (a.toNat + (2 ^ 32 - c.bankBase.toNat)) % 2 ^ 32 % 2 ^ (c.bankBits.val + 3) / 8

/-- How many of codeword bits 0 to `n - 1` are 1 both in `w` and in `row` (41_parity_generator R131). -/
def commonOnes (row w : Word128) (n : Nat) : Nat :=
  (List.range n).countP (fun j => bit128 w j && bit128 row j)

/-- The number each register index reads as (10_state R52, R33, R34, R37). -/
def busNumber (s : State) (index : Nat) : Nat :=
  match index with
  | 0 => s.eccCtl.parity.toNat * 2 ^ 24 + s.eccCtl.wordAddr.toNat
  | 1 => s.ramCtl.eccEn.toNat + 2 * s.ramCtl.autoCorrect.toNat + 4 * s.ramCtl.injEn.toNat
  | 2 => s.d.toNat % 2 ^ 32
  | 3 => s.d.toNat / 2 ^ 32
  | 4 => s.a.toNat
  | 5 => s.w.low.toNat % 2 ^ 32
  | 6 => s.w.low.toNat / 2 ^ 32
  | 7 => s.w.high.toNat % 2 ^ 32
  | 8 => s.w.high.toNat / 2 ^ 32
  | 9 => s.p.toNat
  | 11 => s.busy.toNat + 2 * s.abort.toNat + 16 * (causeCode s.cause).toNat + 256 * s.stepCtr.toNat
  | _ => 0

/-- A 64-bit register after its lower 32-bit view has been written (10_state R25). -/
def lowWritten (x : Word64) (v : Word32) : Word64 := BitVec.ofNat 64 (x.toNat / 2 ^ 32 * 2 ^ 32 + v.toNat)

/-- A 64-bit register after its upper 32-bit view has been written (10_state R25). -/
def highWritten (x : Word64) (v : Word32) : Word64 := BitVec.ofNat 64 (v.toNat * 2 ^ 32 + x.toNat % 2 ^ 32)

/-- The four cases in which the data of a `WR` to `CMD` is an illegal command (30_encoding R98). -/
def commandIllegal (v : Word32) : Prop :=
  v.toNat / 2 ^ 8 ≠ 0 ∨
  (v.toNat / 2 ^ 4 % 2 ^ 4 = 0 ∨ 10 ≤ v.toNat / 2 ^ 4 % 2 ^ 4) ∨
  (v.toNat / 2 ^ 4 % 2 ^ 4 ≠ 4 ∧ v.toNat % 2 ^ 4 ≠ 0) ∨
  (v.toNat / 2 ^ 4 % 2 ^ 4 = 4 ∧ (v.toNat / 2 ^ 2 % 2 ^ 2 = 3 ∨ v.toNat % 2 ^ 2 = 3))

/-- The XOR of the columns of the data bits a fault code flips (43_fault_injector R185). -/
def flippedColumns (rows : Fin 8 → Word128) : FaultCode → Byte
  | .none => 0#8
  | .oneBit => column rows 0
  | .twoBit => column rows 0 ^^^ column rows 1

/-- SEQ performs up to `n` protocol steps undisturbed: its steps follow each other while a run is in progress
(43_fault_injector R185). -/
def runSeq (c : Params) : Nat → State → Host.Outcome State Fault Refusal
  | 0, s => .next s
  | n + 1, s =>
    if seqEnabled s then
      match seqStep c s with
      | .next t => runSeq c n t
      | .fault r => .fault r
      | .refused r => .refused r
    else .next s

end Sys2Proof.Machine
end

