-- ==== Sys2Proof/Certificates/Slice0/Obligations.lean ====
section
/-! DEFINITION. The statements about ECCFI for the provers, each with the rule of spec/ it formalises. -/

open Sys2Proof Sys2Proof.Machine

/-! ### Encoding and decoding -/

/-- Bus words written out from 30_encoding R91 and R94 (as in 95_test_vectors section 4) decode to their operations. -/
def Obligations.WordsOfTheOpcodeMapDecode : Prop :=
  decodeBus 0x1428001000#37 = .wr 4#4 0x28001000#32 ∧ decodeBus 0x0B00000000#37 = .rd 11#4 ∧
  decodeBus 0x1A00000010#37 = .cwbuild ∧ decodeBus 0x1A00000020#37 = .pargen ∧ decodeBus 0x1A00000030#37 = .eccgen ∧
  decodeBus 0x1A00000041#37 = .inject .none .oneBit ∧ decodeBus 0x1A00000048#37 = .inject .twoBit .none ∧
  decodeBus 0x1A00000050#37 = .setaddr ∧ decodeBus 0x1A00000060#37 = .setpar ∧ decodeBus 0x1A00000070#37 = .arm ∧
  decodeBus 0x1A00000080#37 = .disarm ∧ decodeBus 0x1A00000090#37 = .clrint ∧
  decodeBus 0x1A00000043#37 = .wr 10#4 0x43#32

/-- Decoding the encoding of a well-formed operation gives it back, for every value of every field. -/
def Obligations.DecodeInvertsEncode : Prop :=
  ∀ i : Instr, wellFormed i = true → decodeBus (encode i) = i

/-- Every bus word decodes to a well-formed operation; a write word is the encoding of what it decodes to, and a read word
is so but for its ignored WDATA (30_encoding R91, R99). -/
def Obligations.EncodeInvertsDecode : Prop :=
  ∀ w : BusWord, wellFormed (decodeBus w) = true ∧
    encode (decodeBus w) = if w.getLsbD 36 then w else w &&& 0x0F00000000#37

/-- 30_encoding R98: the illegal commands, the seventeen legal ones, and the abort that an illegal one raises. -/
def Obligations.IllegalCommandsAbort : Prop :=
  ∀ (v : Word32) (s : State), s.busy = false → s.abort = false →
    (commandIllegal v ↔ v ∉ ([0x10, 0x20, 0x30, 0x40, 0x41, 0x42, 0x44, 0x45, 0x46, 0x48, 0x49, 0x4A, 0x50, 0x60, 0x70, 0x80,
      0x90] : List Word32)) ∧
    (commandIllegal v →
      exec (.wr 10#4 v) s = .next { s with abort := true, cause := .illegalCommand, busy := false }) ∧
    (¬ commandIllegal v → ∃ i, decodeCommand v = .ok i)

/-- 30_encoding R93: a write to CMD performs the decoded command in the same step; busy or aborted it is ignored. That the
write is a term of its own beside the command (log 18), that exec does not look at IN_HANDLER (log 13) and that HOST's turn in
the handler is a step that does nothing (log 2) are the model's conventions. -/
def Obligations.WriteToCmdIssuesTheCommand : Prop :=
  ∀ (v : Word32) (i : Instr) (s : State), decodeCommand v = .ok i →
    (s.busy = false → s.abort = false → exec (.wr 10#4 v) s = exec i s) ∧
    (s.busy = true ∨ s.abort = true → exec (.wr 10#4 v) s = .next s) ∧
    (s.inHandler = true → takeTurn .host s = .next s)

/-! ### One step -/

/-- A step whose turn is HOST's runs the operation its next request decodes to, on the state with that turn and that request
taken off their lists. The model's convention (log 1, 2). -/
def Obligations.StepRunsTheRequestedOperation : Prop :=
  ∀ (s : State) (w : BusWord) (ws : List BusWord),
    s.booted = true → s.inHandler = false → s.hostOps = w :: ws →
    (∀ ts, s.turns = .host :: ts →
      step s = exec (decodeBus w) { s with hostOps := ws, turns := ts }) ∧
    (s.turns = [] → defaultTurn s = some .host → step s = exec (decodeBus w) { s with hostOps := ws })

/-- What the decoder reads from an opcode-table word is what the next step runs once the word is placed (log 1, 16). -/
def Obligations.PlacedWordRunsNext : Prop :=
  ∀ (s : State) (nbits w : Nat) (i : Instr), decodeTableWord nbits w = some i →
    step (s.withFetchWord nbits w) = exec i { s with booted := true, inHandler := false }

/-- Every step of an agent that 60_exceptions R230 does not enable leaves the whole state as it is (log 2). -/
def Obligations.DisabledAgentsDoNothing : Prop :=
  ∀ s : State,
    (s.inHandler = true → takeTurn .host s = .next s ∧ takeTurn .seq s = .next s ∧ takeTurn .hndA s = .next s) ∧
    (s.busy = false ∨ s.abort = true ∨ s.stepCtr = 0#4 → takeTurn .seq s = .next s) ∧
    (s.fs.pending = false ∨ s.fs.action = .reset ∨ s.fs.irqEnabled = false ∨ s.abort = true →
      takeTurn .hndA s = .next s) ∧
    (s.inHandler = false → takeTurn .hndB s = .next s) ∧
    (s.fs.pending = false ∨ s.fs.action = .interrupt → takeTurn .rstFault s = .next s) ∧
    (∀ a, Config.device.bgCheck = false ∨ s.abort = true ∨ s.ramCtl.eccEn = false ∨ s.fs.pending = true ∨
        cellAt s.mem a.toNat = none ∨
        (∃ x, cellAt s.mem a.toNat = some x ∧ ecc Config.device x.data a = x.par) →
      takeTurn (.chk a) s = .next s)

/-! ### Invariants and whole-machine rules -/

/-- The state after reset meets the invariant, and every written cell of it holds a canonical value. -/
def Obligations.ResetMeetsInvariant : Prop := Inv State.reset ∧ cellsCanonical State.reset

/-- Every step keeps the invariant, from every state that meets it, and with it the DataWord invariant of 10_state R51 (which
the spec derives): cells that hold one of the three canonical values go on doing so, but for the automatic correction of one
indicated data bit, which 20_memory R74 admits whatever it gives (log 11). -/
def Obligations.StepKeepsInvariant : Prop :=
  ∀ s t : State, Inv s → step s = .next t → Inv t ∧
    (cellsCanonical s → ∀ a y, cellAt t.mem a = some y → canonicalData y.data ∨
      ∃ x, cellAt s.mem a = some x ∧ bitCorrected Config.device a x y s)

/-- 10_state R35 (which the spec derives): the three enable flags are equal at reset and every step keeps them so. -/
def Obligations.EnableFlagsStayTogether : Prop :=
  flagsAgree State.reset ∧ ∀ s t : State, flagsAgree s → step s = .next t → flagsAgree t

/-- Every step keeps the canonical form of the memory: addresses strictly rising and 8-byte aligned, from any state at all. -/
def Obligations.StepKeepsMemoryCanonical : Prop :=
  ∀ s t : State, Memory.wf s.mem = true → step s = .next t → Memory.wf t.mem = true

/-- From a state that meets the invariant the machine always has a next state: no fault, no refusal. -/
def Obligations.StepAlwaysGoesOn : Prop :=
  ∀ s : State, Inv s → ∃ t, step s = .next t

/-- In any state at all a step stops only on a misaligned target cell, and only while a run is in progress (log 12). -/
def Obligations.StopsOnlyOnMisalignedTarget : Prop :=
  ∀ s : State, (∀ r, step s ≠ .refused r) ∧
    ∀ r, step s = .fault r →
      r = .misalignedCell s.lat.ta ∧ s.lat.ta.toNat % 8 ≠ 0 ∧ s.busy = true ∧
      (s.stepCtr = 1#4 ∨ s.stepCtr = 6#4 ∨ s.stepCtr = 8#4 ∨ s.stepCtr = 10#4)

/-- 10_state R28: STEP changes only so. -/
def Obligations.StepCounterChangesOnlySo : Prop :=
  ∀ (u : Turn) (s t : State), Inv s → takeTurn u s = .next t →
    match u with
    | .host => t.stepCtr = s.stepCtr ∨
        (s.stepCtr = 0#4 ∧ t.stepCtr = 1#4 ∧ s.busy = false ∧ t.busy = true ∧
          ∃ w ws dd pp, s.hostOps = w :: ws ∧ decodeBus w = .inject dd pp)
    | .seq => if seqEnabled s = true then
        (t.abort = true ∧ t.stepCtr = s.stepCtr) ∨
        (t.abort = false ∧ t.stepCtr.toNat = if s.stepCtr.toNat = 10 then 0 else s.stepCtr.toNat + 1)
        else t.stepCtr = s.stepCtr
    | .extReset => t.stepCtr = 0#4
    | .rstFault => t.stepCtr = if s.fs.pending = true ∧ s.fs.action = .reset then 0#4 else s.stepCtr
    | .boot | .hndA | .hndB | .chk _ | .setAction _ | .setIrqEnabled _ => t.stepCtr = s.stepCtr

/-- 10_state R30: ABORT is set only by `raise Abort(cause)`, whose effect is then the whole step's, and cleared only by reset;
while it is 1 no agent but RST changes any state of the block; HOST's reads still work. The turns include external code's
setAction and setIrqEnabled, which are no agents of 00_scope R14: that they do nothing while ABORT = 1 is the model's inference
(log 15), and the invariant is a premise because of handler step B (log 14). -/
def Obligations.AbortedBlockIsFrozen : Prop :=
  (∀ (u : Turn) (s t : State), s.abort = false → takeTurn u s = .next t → t.abort = true →
    t.cause ≠ .none ∧
      blockOf t = blockOf { s with abort := true, cause := t.cause, busy := false }) ∧
  ∀ s : State, Inv s → s.abort = true →
    (∀ (u : Turn) (t : State), u ≠ .extReset → u ≠ .rstFault → takeTurn u s = .next t → blockOf t = blockOf s) ∧
    (∀ r : RegIndex, ∃ v : Word32, exec (.rd r) s = .next { s with replies := s.replies ++ [v] } ∧
      v.toNat = busNumber s r.toNat)

/-- 10_state R46: only the handler appends to OUT; 70_reset R252: a reset leaves it as it is. -/
def Obligations.OnlyTheHandlerEmits : Prop :=
  ∀ (u : Turn) (s t : State), u ≠ .hndA → takeTurn u s = .next t → t.out = s.out

/-- 42_control_register_ops R159 (derived there): no operation of HOST reads or writes a cell. Two states that differ in MEM
only give the same operation the same result but for MEM, which it leaves as it is. -/
def Obligations.HostNeverTouchesCells : Prop :=
  ∀ (i : Instr) (s : State) (m : Memory), ∃ t, exec i s = .next t ∧ t.mem = s.mem ∧
    exec i { s with mem := m } = .next { t with mem := m }

/-! ### The two bus operations -/

/-- 42_control_register_ops R146: a read returns the register's value and changes no state whatever, in every state. -/
def Obligations.BusReadReturnsTheRegister : Prop :=
  ∀ (r : RegIndex) (s : State), ∃ v : Word32,
    exec (.rd r) s = .next { s with replies := s.replies ++ [v] } ∧ v.toNat = busNumber s r.toNat

/-- 42_control_register_ops R147: a write changes its view alone, an index without one changes nothing, and index 10 issues
the command. -/
def Obligations.BusWriteChangesItsView : Prop :=
  ∀ (r : RegIndex) (v : Word32) (s : State), s.busy = false → s.abort = false →
    (r ≠ 10#4 → exec (.wr r v) s = .next { s with
      d := if r = 2#4 then lowWritten s.d v else if r = 3#4 then highWritten s.d v else s.d
      a := if r = 4#4 then v else s.a
      w := ⟨if r = 5#4 then lowWritten s.w.low v else if r = 6#4 then highWritten s.w.low v else s.w.low,
        if r = 7#4 then lowWritten s.w.high v else if r = 8#4 then highWritten s.w.high v else s.w.high⟩
      p := if r = 9#4 then BitVec.ofNat 8 v.toNat else s.p }) ∧
    (∀ i, decodeCommand v = .ok i → exec (.wr 10#4 v) s = exec i s) ∧
    (∀ e, decodeCommand v = .error e →
      exec (.wr 10#4 v) s = .next { s with abort := true, cause := .illegalCommand, busy := false })

/-- 30_encoding R99: every word is legal, an unmapped read gives 0, an unmapped or read-only write is ignored, neither
aborts. -/
def Obligations.UnmappedAccessesAreHarmless : Prop :=
  (∀ (w : BusWord) (s : State), ∃ t, exec (decodeBus w) s = .next t) ∧
  (∀ (r : RegIndex) (s : State), 12 ≤ r.toNat → exec (.rd r) s = .next { s with replies := s.replies ++ [0#32] }) ∧
  (∀ (r : RegIndex) (v : Word32) (s : State), 12 ≤ r.toNat ∨ r = 0#4 ∨ r = 1#4 ∨ r = 11#4 →
    exec (.wr r v) s = .next s)

/-- 42_control_register_ops R148: while busy or aborted every write, and so every command, has no effect on any state. -/
def Obligations.WritesIgnoredWhileBusyOrAborted : Prop :=
  ∀ (i : Instr) (s : State), (∀ r, i ≠ .rd r) → s.busy = true ∨ s.abort = true → exec i s = .next s

/-! ### The Codeword Builder and the Parity Generator -/

/-- 40_codeword_builder R121: subtract modulo 2^32, mask, shift; the result is below 2^(k-3), hence below 2^24. -/
def Obligations.WordAddressIsMaskedOffset : Prop :=
  ∀ (c : Params) (a : Addr), (wordAddr c a).toNat = wordAddrNumber c a ∧
    wordAddrNumber c a < 2 ^ (c.bankBits.val + 3 - 3) ∧ wordAddrNumber c a < 2 ^ 24

/-- 95_test_vectors section 3.1: word addresses count the bank's cells from 0 and repeat with the bank's size. -/
def Obligations.WordAddressCountsCells : Prop :=
  ∀ c : Params, wordAddr c c.bankBase = 0#32 ∧
    (∀ n : Nat, n < 2 ^ c.bankBits.val → (wordAddr c (c.bankBase + BitVec.ofNat 32 (8 * n))).toNat = n) ∧
    (∀ a : Addr, wordAddr c (a + bankMask c + 1#32) = wordAddr c a)

/-- 40_codeword_builder R123: CWBUILD puts D in W.low and the word address of A, zero-extended, in W.high, and
changes nothing else. -/
def Obligations.CwbuildWritesW : Prop :=
  ∀ s : State,
    (s.busy = false → s.abort = false →
      exec .cwbuild s = .next { s with w := ⟨s.d, BitVec.ofNat 64 (wordAddrNumber Config.device s.a)⟩ }) ∧
    (s.busy = true ∨ s.abort = true → exec .cwbuild s = .next s)

/-- 41_parity_generator R131: bit `i` of the parity is the number of positions where both the codeword and row `i` have a 1,
modulo 2. -/
def Obligations.ParityBitCountsCommonOnes : Prop :=
  ∀ (rows : Fin 8 → Word128) (w : Word128) (i : Fin 8),
    (parGen rows w).getLsbD i.val = decide (commonOnes (rows i) w 128 % 2 = 1)

/-- 41_parity_generator R132: PARGEN writes P from W and changes nothing else. -/
def Obligations.PargenWritesP : Prop :=
  ∀ s : State,
    (s.busy = false → s.abort = false → exec .pargen s = .next { s with p := parGen Config.device.rows s.w }) ∧
    (s.busy = true ∨ s.abort = true → exec .pargen s = .next s)

/-- 41_parity_generator R135: ECCGEN writes W and P from D and A. The third clause, that it equals CWBUILD followed by PARGEN in
every state, is what the spec derives there. -/
def Obligations.EccgenIsCwbuildThenPargen : Prop :=
  ∀ s : State,
    (s.busy = false → s.abort = false →
      exec .eccgen s = .next { s with
        w := ⟨s.d, BitVec.ofNat 64 (wordAddrNumber Config.device s.a)⟩
        p := ecc Config.device s.d s.a }) ∧
    (s.busy = true ∨ s.abort = true → exec .eccgen s = .next s) ∧
    (∃ t, exec .cwbuild s = .next t ∧ exec .eccgen s = exec .pargen t)

/-- 41_parity_generator R136: the parity of the XOR is the XOR of the parities, for every matrix. -/
def Obligations.ParityIsLinear : Prop :=
  ∀ (rows : Fin 8 → Word128) (w1 w2 : Word128),
    parGen rows ⟨w1.low ^^^ w2.low, w1.high ^^^ w2.high⟩ = parGen rows w1 ^^^ parGen rows w2

/-- 41_parity_generator R133: the parity of the codeword that has only bit `j` set is column `j`, whose bit `i` is bit `j`
of row `i`. -/
def Obligations.SingleBitParityIsItsColumn : Prop :=
  ∀ (rows : Fin 8 → Word128) (j : Nat), j < 128 →
    (parGen rows (if j < 64 then ⟨1#64 <<< j, 0#64⟩ else ⟨0#64, 1#64 <<< (j - 64)⟩) = column rows j) ∧
    ∀ i : Fin 8, (column rows j).getLsbD i.val =
      if j < 64 then (rows i).low.getLsbD j else (rows i).high.getLsbD (j - 64)

/-- 41_parity_generator R138 and R140 (derived there): a flipped data bit changes the parity by its column, a flipped bit of
the stored parity changes the syndrome by that bit. -/
def Obligations.BitFlipsChangeTheSyndrome : Prop :=
  ∀ (c : Params) (a : Addr) (x : MemCell),
    (∀ j : Nat, j < 64 → ecc c (x.data ^^^ 1#64 <<< j) a = ecc c x.data a ^^^ column c.rows j) ∧
    (∀ i : Nat, i < 8 → syndrome c a ⟨x.data, x.par ^^^ 1#8 <<< i⟩ = syndrome c a x ^^^ 1#8 <<< i)

/-! ### The typed setters -/

/-- 42_control_register_ops R154: SETADDR writes WORD_ADDR from A and changes nothing else. -/
def Obligations.SetaddrWritesWordAddr : Prop :=
  ∀ s : State,
    (s.busy = false → s.abort = false →
      exec .setaddr s = .next { s with
        eccCtl := ⟨BitVec.ofNat 24 (wordAddrNumber Config.device s.a), s.eccCtl.parity⟩ }) ∧
    (s.busy = true ∨ s.abort = true → exec .setaddr s = .next s)

/-- 42_control_register_ops R155: SETPAR writes PARITY from P and changes nothing else. -/
def Obligations.SetparWritesParity : Prop :=
  ∀ s : State,
    (s.busy = false → s.abort = false →
      exec .setpar s = .next { s with eccCtl := ⟨s.eccCtl.wordAddr, s.p⟩ }) ∧
    (s.busy = true ∨ s.abort = true → exec .setpar s = .next s)

/-- 42_control_register_ops R156: ARM sets the three flags in one step and changes nothing else; armed already, nothing. -/
def Obligations.ArmSetsTheThreeFlags : Prop :=
  ∀ s : State,
    (s.busy = false → s.abort = false → exec .arm s = .next { s with ramCtl := ⟨true, true, true⟩ }) ∧
    (s.ramCtl = ⟨true, true, true⟩ ∨ s.busy = true ∨ s.abort = true → exec .arm s = .next s)

/-- 42_control_register_ops R157: DISARM clears the three flags in one step and changes nothing else; idle already, nothing. -/
def Obligations.DisarmClearsTheThreeFlags : Prop :=
  ∀ s : State,
    (s.busy = false → s.abort = false → exec .disarm s = .next { s with ramCtl := ⟨false, false, false⟩ }) ∧
    (s.ramCtl = ⟨false, false, false⟩ ∨ s.busy = true ∨ s.abort = true → exec .disarm s = .next s)

/-- 42_control_register_ops R158: CLRINT leaves nothing pending and the record's three fields at any value. -/
def Obligations.ClrintClearsPending : Prop :=
  ∀ s : State,
    (s.busy = false → s.abort = false → ∃ (addr info : Word32) (src : ErrorSource) (n : Nat),
      exec .clrint s = .next { s with
        fs := ⟨false, addr, info, src, s.fs.action, s.fs.irqEnabled⟩
        draws := n }) ∧
    (s.busy = true ∨ s.abort = true → exec .clrint s = .next s)

/-! ### The Fault Injector -/

/-- 43_fault_injector R171: INJECT is accepted at an aligned address, whatever the preset, and aborts at another. -/
def Obligations.InjectIsAcceptedWhenAligned : Prop :=
  ∀ (dd pp : FaultCode) (s : State),
    (s.busy = false → s.abort = false → s.a.toNat % 8 = 0 →
      exec (.inject dd pp) s = .next { s with
        lat := { s.lat with ta := s.a, df := dd, pf := pp }
        busy := true
        stepCtr := 1#4 }) ∧
    (s.busy = false → s.abort = false → s.a.toNat % 8 ≠ 0 →
      exec (.inject dd pp) s = .next { s with abort := true, cause := .misalignedTarget, busy := false }) ∧
    (s.busy = true ∨ s.abort = true → exec (.inject dd pp) s = .next s)

/-- 43_fault_injector R177: a preset is legal when it flips at most two bits; exactly three pairs are not. -/
def Obligations.LegalPresetsFlipAtMostTwo : Prop :=
  ∀ df pf : FaultCode,
    (legalPreset df pf = true ↔ (faultToBits df).toNat + (faultToBits pf).toNat ≤ 2) ∧
    (legalPreset df pf = false ↔
      (df, pf) ∈ [(FaultCode.twoBit, FaultCode.oneBit), (.oneBit, .twoBit), (.twoBit, .twoBit)])

/-- 20_memory R67: a cell write stores the data with the injected parity on a hit and the correct one otherwise, and no
other cell or state changes. The last clause, on bytes, is derived through the byte view of R61 (log 8). -/
def Obligations.MemWriteStoresDataAndParity : Prop :=
  ∀ (c : Params) (a : Addr) (v : Word64) (s : State), a.toNat % 8 = 0 →
    (∃ m, memWrite c a v s = { s with mem := m }) ∧
    cellAt (memWrite c a v s).mem a.toNat = some ⟨v,
      if s.ramCtl.injEn = true ∧ wordAddrNumber c a = s.eccCtl.wordAddr.toNat then s.eccCtl.parity else ecc c v a⟩ ∧
    (∀ b, b ≠ a.toNat → cellAt (memWrite c a v s).mem b = cellAt s.mem b) ∧
    (∀ b, b < a.toNat ∨ a.toNat + 8 ≤ b → byteAt (memWrite c a v s).mem b = byteAt s.mem b)

/-- 43_fault_injector R173, R179, R181: steps 1, 6 and 8 write CORRECT, DSEL and DSEL to the target cell and go on to the
next step. -/
def Obligations.SeqWritesTheTargetCell : Prop :=
  ∀ s : State, s.busy = true → s.abort = false → s.inHandler = false → s.lat.ta.toNat % 8 = 0 →
    (s.stepCtr = 1#4 → takeTurn .seq s =
      .next { memWrite Config.device s.lat.ta 0x5A5A5A5A5A5A5A5A#64 s with stepCtr := 2#4 }) ∧
    (s.stepCtr = 6#4 → takeTurn .seq s =
      .next { memWrite Config.device s.lat.ta s.lat.dsel s with stepCtr := 7#4 }) ∧
    (s.stepCtr = 8#4 → takeTurn .seq s =
      .next { memWrite Config.device s.lat.ta s.lat.dsel s with stepCtr := 9#4 })

/-- 43_fault_injector R174, R175: steps 2 and 3 compute the correct parity and the two wrong ones (and so R190). -/
def Obligations.SeqComputesTheParities : Prop :=
  ∀ s : State, s.busy = true → s.abort = false → s.inHandler = false →
    (s.stepCtr = 2#4 → takeTurn .seq s = .next { s with
      lat := { s.lat with
        pcor := (parGen Config.device.rows
          ⟨0x5A5A5A5A5A5A5A5A#64, BitVec.ofNat 64 (wordAddrNumber Config.device s.lat.ta)⟩) }
      stepCtr := 3#4 }) ∧
    (s.stepCtr = 3#4 → ∃ t, takeTurn .seq s = .next { s with lat := t, stepCtr := 4#4 } ∧
      t = { s.lat with p1 := s.lat.pcor ^^^ 0x01#8, p2 := s.lat.pcor ^^^ 0x03#8 } ∧
      t.p1 ^^^ t.pcor = 0x01#8 ∧ t.p2 ^^^ t.pcor = 0x03#8)

/-- 43_fault_injector R176: step 4 selects the parity of a legal preset and aborts on another, at step 4. -/
def Obligations.SeqChecksThePreset : Prop :=
  ∀ s : State, s.busy = true → s.abort = false → s.inHandler = false → s.stepCtr = 4#4 →
    (flipCount s.lat.df + flipCount s.lat.pf ≤ 2 → takeTurn .seq s = .next { s with
      lat := { s.lat with psel :=
        if s.lat.pf = .none then s.lat.pcor else if s.lat.pf = .oneBit then s.lat.p1 else s.lat.p2 }
      stepCtr := 5#4 }) ∧
    (2 < flipCount s.lat.df + flipCount s.lat.pf → takeTurn .seq s =
      .next { s with abort := true, cause := .invalidPreset, busy := false })

/-- 43_fault_injector R178, R180, R182: step 5 selects the data, step 7 programs and arms, step 9 waits. -/
def Obligations.SeqSelectsProgramsAndWaits : Prop :=
  ∀ s : State, s.busy = true → s.abort = false → s.inHandler = false →
    (s.stepCtr = 5#4 → takeTurn .seq s = .next { s with
      lat := { s.lat with dsel :=
        if s.lat.df = .none then 0x5A5A5A5A5A5A5A5A#64
        else if s.lat.df = .oneBit then 0x5A5A5A5A5A5A5A5B#64 else 0x5A5A5A5A5A5A5A59#64 }
      stepCtr := 6#4 }) ∧
    (s.stepCtr = 7#4 → takeTurn .seq s = .next { s with
      eccCtl := ⟨BitVec.ofNat 24 (wordAddrNumber Config.device s.lat.ta), s.lat.psel⟩
      ramCtl := ⟨true, true, true⟩
      stepCtr := 8#4 }) ∧
    (s.stepCtr = 9#4 → takeTurn .seq s = .next { s with stepCtr := 10#4 })

/-- 43_fault_injector R183: step 10 reads the cell back, discards the value and ends the run. -/
def Obligations.SeqReadsBackAndEnds : Prop :=
  ∀ s : State, s.busy = true → s.abort = false → s.inHandler = false → s.lat.ta.toNat % 8 = 0 → s.stepCtr = 10#4 →
    takeTurn .seq s = .next { (memRead Config.device s.lat.ta s).2 with busy := false, stepCtr := 0#4 }

/-- 20_memory R68 and R74: what a cell read returns and leaves. An unwritten cell, an ungated check and a zero syndrome
leave all but the draws as it was; a fault sets FS.pending and leaves MEM as it was or, if it is correctable and
AUTO_CORRECT is set, with the one cell rewritten to the corrected pair (log 11). -/
def Obligations.MemReadChecksTheCell : Prop :=
  ∀ (c : Params) (a : Addr) (s : State),
    (cellAt s.mem a.toNat = none → ∃ v n, memRead c a s = (v, { s with draws := n })) ∧
    (∀ x, cellAt s.mem a.toNat = some x →
      (s.ramCtl.eccEn = false ∨ ecc c x.data a = x.par → memRead c a s = (x.data, s)) ∧
      (s.ramCtl.eccEn = true → ecc c x.data a ≠ x.par →
        ∃ v f m n, memRead c a s = (v, { s with fs := f, mem := m, draws := n }) ∧
          f = (capture c (ecc c x.data a ^^^ x.par) s).fs ∧ f.pending = true ∧ mayBecome c a x s m))

/-- 20_memory R74: where the syndrome is the column of one data or parity bit alone, the correction flips that data bit back,
or leaves the data when the column is a parity bit's, whatever the columns of the word-address bits are. -/
def Obligations.CorrectionFlipsTheIndicatedBit : Prop :=
  ∀ (rows : Fin 8 → Word128) (d free : Word64) (j : Nat), j < 64 ∨ (128 ≤ j ∧ j < 136) →
    (∀ l, l < 64 ∨ (128 ≤ l ∧ l < 136) → (extColumn rows l = extColumn rows j ↔ l = j)) →
    correctedData rows (extColumn rows j) d free = if j < 64 then d ^^^ 1#64 <<< j else d

/-- 20_memory R69: a capture records the first fault and drops a later one. -/
def Obligations.CaptureKeepsTheFirstFault : Prop :=
  ∀ (c : Params) (syn : Byte) (s : State),
    (s.fs.pending = true → capture c syn s = s) ∧
    (s.fs.pending = false → ∃ addr info n, capture c syn s = { s with
      fs := ⟨true, addr, info, if c.classify syn = .single then .srcCorrectable else .srcUncorrectable,
        s.fs.action, s.fs.irqEnabled⟩
      draws := n })

/-- 43_fault_injector R172: INJECT's acceptance and its ten steps leave D, A, W and P alone, and read none of D, W and P:
other values there change nothing of the outcome. -/
def Obligations.ProtocolLeavesOperandsAlone : Prop :=
  (∀ (c : Params) (s t : State), seqStep c s = .next t →
    t.d = s.d ∧ t.a = s.a ∧ t.w = s.w ∧ t.p = s.p ∧
    ∀ d a w p, seqStep c { s with d := d, a := a, w := w, p := p } = .next { t with d := d, a := a, w := w, p := p }) ∧
  (∀ (dd pp : FaultCode) (s t : State), exec (.inject dd pp) s = .next t →
    t.d = s.d ∧ t.a = s.a ∧ t.w = s.w ∧ t.p = s.p ∧
    ∀ d w p, exec (.inject dd pp) { s with d := d, w := w, p := p } = .next { t with d := d, w := w, p := p })

/-- 43_fault_injector R185 (derived there), for every device: the end state of an undisturbed run of a legal preset. The
row of MEM holds but for what 20_memory R74 lets AUTO_CORRECT do on the read of step 10 (log 11); under SECDED(H) and the
default classification what it writes is one of the three values of 10_state R51. -/
def Obligations.UndisturbedRunEndState : Prop :=
  ∀ (c : Params) (df pf : FaultCode) (s : State),
    flipCount df + flipCount pf ≤ 2 → s.busy = false → s.abort = false → s.inHandler = false →
    s.ramCtl = ⟨false, false, false⟩ → s.fs.pending = false → s.a.toNat % 8 = 0 →
    ∃ s1 t, exec (.inject df pf) s = .next s1 ∧ runSeq c 10 s1 = .next t ∧
      t.busy = false ∧ t.stepCtr = 0#4 ∧ t.abort = false ∧ t.inHandler = false ∧
      t.d = s.d ∧ t.a = s.a ∧ t.w = s.w ∧ t.p = s.p ∧ t.out = s.out ∧
      t.eccCtl = ⟨wordAddr24 c s.a, ecc c correctWord s.a ^^^ flipMask pf⟩ ∧
      t.ramCtl = ⟨true, true, true⟩ ∧
      ecc c (faultedData df) s.a ^^^ t.eccCtl.parity = flippedColumns c.rows df ^^^ flipMask pf ∧
      (t.fs.pending = true ↔ flippedColumns c.rows df ^^^ flipMask pf ≠ 0#8) ∧
      (t.fs.pending = true → t.fs.errorSource =
        if c.classify (flippedColumns c.rows df ^^^ flipMask pf) = .single then .srcCorrectable
        else .srcUncorrectable) ∧
      (cellAt t.mem s.a.toNat = some ⟨faultedData df, ecc c correctWord s.a ^^^ flipMask pf⟩ ∨
        (t.fs.pending = true ∧ c.classify (flippedColumns c.rows df ^^^ flipMask pf) = .single ∧
          ∃ free d, d = correctedData c.rows (flippedColumns c.rows df ^^^ flipMask pf) (faultedData df) free ∧
            canonicalData free ∧
            (Secded c.rows (c.bankBits.val + 3) →
              (∀ syn, syn ≠ 0#8 → c.classify syn = classifyDefault c.rows syn) → canonicalData d) ∧
            cellAt t.mem s.a.toNat = some ⟨d, ecc c d s.a⟩)) ∧
      ∀ b, b ≠ s.a.toNat → cellAt t.mem b = cellAt s.mem b

/-- 43_fault_injector R189 (derived there), for every device: an illegal preset aborts at step 4, after the cell has been
written with CORRECT and its correct parity. -/
def Obligations.IllegalPresetAbortsAtStepFour : Prop :=
  ∀ (c : Params) (df pf : FaultCode) (s : State),
    2 < flipCount df + flipCount pf → s.busy = false → s.abort = false → s.inHandler = false →
    s.ramCtl = ⟨false, false, false⟩ → s.a.toNat % 8 = 0 →
    ∃ s1 m, exec (.inject df pf) s = .next s1 ∧
      runSeq c 10 s1 = .next { s with
        lat := { s.lat with
          ta := s.a
          df := df
          pf := pf
          pcor := ecc c correctWord s.a
          p1 := ecc c correctWord s.a ^^^ 0x01#8
          p2 := ecc c correctWord s.a ^^^ 0x03#8 }
        mem := m
        abort := true
        cause := .invalidPreset
        busy := false
        stepCtr := 4#4 } ∧
      cellAt m s.a.toNat = some ⟨correctWord, ecc c correctWord s.a⟩ ∧
      ∀ b, b ≠ s.a.toNat → cellAt m b = cellAt s.mem b

/-- 43_fault_injector R186 and 20_memory R72 (both derived there): the class of each legal preset's syndrome under the default
classification, each row with the premise the table gives it, and under SECDED(H) that one flipped bit is Single and two
flipped bits are Multi. -/
def Obligations.PresetSyndromesClassify : Prop :=
  ∀ (rows : Fin 8 → Word128),
    flippedColumns rows .none ^^^ flipMask .none = 0#8 ∧
    classifyDefault rows (flippedColumns rows .none ^^^ flipMask .oneBit) = .single ∧
    (column rows 0 ≠ 0#8 → flippedColumns rows .oneBit ^^^ flipMask .none ≠ 0#8 ∧
      classifyDefault rows (flippedColumns rows .oneBit ^^^ flipMask .none) = .single) ∧
    ∀ k : Nat, 3 ≤ k → k ≤ 27 → Secded rows k →
      (∀ i, livePosition k i → extColumn rows i ≠ 0#8 ∧ classifyDefault rows (extColumn rows i) = .single) ∧
      (∀ i j, livePosition k i → livePosition k j → i ≠ j →
        extColumn rows i ^^^ extColumn rows j ≠ 0#8 ∧
          classifyDefault rows (extColumn rows i ^^^ extColumn rows j) = .multi) ∧
      column rows 0 ≠ 0#8 ∧
      classifyDefault rows (flippedColumns rows .none ^^^ flipMask .twoBit) = .multi ∧
      classifyDefault rows (flippedColumns rows .oneBit ^^^ flipMask .oneBit) = .multi ∧
      classifyDefault rows (flippedColumns rows .twoBit ^^^ flipMask .none) = .multi

/-! ### The checker's background step, the handler, reset and boot -/

/-- 20_memory R75, with R74's choice for a correctable fault (log 11): CHK's turn, when enabled, is the background evaluation,
which captures the cell's syndrome and, that choice apart, changes nothing else. -/
def Obligations.BackgroundCheckCaptures : Prop :=
  (∀ (a : Addr) (s : State), takeTurn (.chk a) s =
    .next (if chkEnabled Config.device a s = true then backgroundCheck Config.device a s else s)) ∧
  ∀ (c : Params) (a : Addr) (x : MemCell) (s : State), cellAt s.mem a.toNat = some x →
    (chkEnabled c a s = true ↔ c.bgCheck = true ∧ s.abort = false ∧ s.ramCtl.eccEn = true ∧ s.fs.pending = false ∧
      ecc c x.data a ≠ x.par) ∧
    (s.ramCtl.autoCorrect = false ∨ c.classify (ecc c x.data a ^^^ x.par) = .multi →
      backgroundCheck c a s = capture c (ecc c x.data a ^^^ x.par) s) ∧
    (∃ m n, backgroundCheck c a s = { capture c (ecc c x.data a ^^^ x.par) s with mem := m, draws := n } ∧
      mayBecome c a x s m)

/-- 60_exceptions R214, R215: handler step A reports the snapshot once, toggles, clears the record and enters the handler;
the preempted flow is untouched (R217). -/
def Obligations.HandlerEntryReportsAndClears : Prop :=
  ∀ s : State, s.fs.pending = true → s.fs.action = .interrupt → s.fs.irqEnabled = true → s.inHandler = false →
    s.abort = false → ∃ addr info src n,
      takeTurn .hndA s = .next { s with
        inHandler := true
        out := s.out ++ .report
          (if s.fs.errorSource = .srcCorrectable then .correctable
            else if s.fs.errorSource = .srcNone then .noFault else .unknown)
          s.fs.faultAddress s.fs.faultInfo s.fs.errorSource :: List.replicate Config.device.toggleCount .toggle
        fs := ⟨false, addr, info, src, s.fs.action, s.fs.irqEnabled⟩
        draws := n }

/-- 60_exceptions R216: handler step B disarms and returns, and changes nothing else. -/
def Obligations.HandlerReturnDisarms : Prop :=
  ∀ s : State, s.inHandler = true →
    takeTurn .hndB s = .next { s with ramCtl := ⟨false, false, false⟩, inHandler := false }

/-- 70_reset R250 and R252, 60_exceptions R222: both resets have the same effect; registers and flags become 0, every cell
unwritten, latches and the rest of FS unspecified, OUT as it was. That action and mask become any value at a later reset too
(log 6), that a boot step is due again (log 7) and that the outside world's lists stay (log 19) are the model's choices. -/
def Obligations.ResetClearsTheBlock : Prop :=
  ∀ s : State, ∃ l addr info src act irq n,
    takeTurn .extReset s = .next { s with
      d := 0, a := 0, w := ⟨0, 0⟩, p := 0, stepCtr := 0, busy := false, abort := false, cause := .none,
      inHandler := false, eccCtl := ⟨0, 0⟩, ramCtl := ⟨false, false, false⟩, lat := l,
      fs := ⟨false, addr, info, src, act, irq⟩, mem := [], booted := false, draws := n } ∧
    (s.fs.pending = true → s.fs.action = .reset → takeTurn .rstFault s = takeTurn .extReset s)

/-- 70_reset R263: the first step after a reset draws INIT_OK and aborts with InitFailed exactly when it is false, before any
HOST operation. That the boot is a step with a flag of its own is the model's convention (log 7). -/
def Obligations.BootFailureAborts : Prop :=
  ∀ s : State, s.booted = false → takeTurn .host s = .next s ∧ ∃ n,
    takeTurn .boot s = .next (if Config.initOk s.draws = true then { s with booted := true, draws := n }
      else { s with booted := true, draws := n, abort := true, cause := .initFailed, busy := false })

/-! ### Runs -/

/-- 60_exceptions R231 with the model's default schedule (log 2): with no turn listed, an accepted run reaches its end or
aborts within ten steps, or is abandoned by a fault reset. -/
def Obligations.AcceptedRunFinishes : Prop :=
  ∀ s : State, Inv s → s.turns = [] → s.busy = true → s.inHandler = false →
    ∃ n t, n ≤ 10 ∧ Host.Core.run core n s = .next t ∧ t.busy = false

/-- With no turn listed and a fault delivered to the handler, two steps after the run is done report it once and leave
nothing pending and the block disarmed (60_exceptions R220, 95_test_vectors S8; log 2). -/
def Obligations.PendingFaultIsHandled : Prop :=
  ∀ s : State, Inv s → s.booted = true → s.turns = [] → s.busy = false → s.abort = false → s.inHandler = false →
    s.fs.pending = true → s.fs.action = .interrupt → s.fs.irqEnabled = true →
    ∃ t, Host.Core.run core 2 s = .next t ∧ t.fs.pending = false ∧ t.inHandler = false ∧
      t.ramCtl = ⟨false, false, false⟩ ∧
      t.out = s.out ++ handlerEvents Config.device s.fs ∧
      t.eccCtl = s.eccCtl ∧ t.mem = s.mem ∧ t.d = s.d ∧ t.a = s.a ∧ t.w = s.w ∧ t.p = s.p ∧ t.lat = s.lat ∧
      t.stepCtr = s.stepCtr ∧ t.hostOps = s.hostOps

/-- 60_exceptions R232: a run that is over stays so: with no turn listed the machine waits. -/
def Obligations.FinishedRunWaits : Prop :=
  ∀ s : State, s.booted = true → s.turns = [] → runOver s = true → step s = .next s

/-- 30_encoding R112: LDD, LDA and LDW load D, A and W, in any idle state in which HOST has a step; GENCI and GENCR are the
external write of FS.action followed by the menu's preset. The external writes of FS.action and FS.irq_enabled (10_state R44,
R45) change that field alone; that they happen whenever ABORT = 0, and not while ABORT = 1, is the model's inference (log 15). -/
def Obligations.PseudoOperationsHaveTheirEffect : Prop :=
  (∀ (s : State) (v lo hi : Word64) (a : Word32),
    s.booted = true → s.inHandler = false → s.busy = false → s.abort = false →
    Host.Core.run core 2 (withRequests (pseudoLdd v) s) = .next { s with d := v } ∧
    Host.Core.run core 1 (withRequests (pseudoLda a) s) = .next { s with a := a } ∧
    Host.Core.run core 4 (withRequests (pseudoLdw lo hi) s) = .next { s with w := ⟨lo, hi⟩ }) ∧
  (∀ (s : State), s.booted = true → s.inHandler = false → s.abort = false →
    Host.Core.run core 2 (pseudoGenci s) =
      exec (.inject .none .oneBit) { s with fs := { s.fs with action := .interrupt } } ∧
    Host.Core.run core 2 (pseudoGencr s) =
      exec (.inject .none .oneBit) { s with fs := { s.fs with action := .reset } }) ∧
  ∀ (s : State) (x : FaultAction) (b : Bool),
    (s.abort = false →
      takeTurn (.setAction x) s = .next { s with fs := { s.fs with action := x } } ∧
      takeTurn (.setIrqEnabled b) s = .next { s with fs := { s.fs with irqEnabled := b } }) ∧
    (s.abort = true → takeTurn (.setAction x) s = .next s ∧ takeTurn (.setIrqEnabled b) s = .next s)
end

