-- ==== Sys2Proof/Laws/Decode.lean ====
section
/-! SUPPORT. The fields of a put-together bus word read back, and a bus word is determined by its fields. -/

namespace Sys2Proof

@[simp] theorem busWord_write (b : Bool) (r : RegIndex) (v : Word32) : (busWord b r v).getLsbD 36 = b := by
  simp [busWord, BitVec.getLsbD_eq_getElem]

@[simp] theorem busWord_reg (b : Bool) (r : RegIndex) (v : Word32) : (busWord b r v).extractLsb' 32 4 = r := by
  ext i hi
  have : i = 0 ∨ i = 1 ∨ i = 2 ∨ i = 3 := by omega
  rcases this with rfl | rfl | rfl | rfl <;> simp [busWord]

@[simp] theorem busWord_data (b : Bool) (r : RegIndex) (v : Word32) : (busWord b r v).extractLsb' 0 32 = v := by
  ext i hi
  have h36 : i < 36 := by omega
  have h37 : i < 37 := by omega
  simp [busWord, h36, h37, hi]

/-- A bus word is put together from its own three fields (30_encoding R91). -/
theorem busWord_fields (w : BusWord) :
    busWord (w.getLsbD 36) (w.extractLsb' 32 4) (w.extractLsb' 0 32) = w := by
  ext i hi
  by_cases h : i < 32
  · have h32 : ¬ 32 ≤ i := by omega
    have h36 : i < 36 := by omega
    simp [busWord, h36, h, BitVec.getLsbD_eq_getElem, hi]
  · by_cases h' : i < 36
    · have hi4 : i - 32 < 4 := by omega
      have hs : 32 + (i - 32) = i := by omega
      simp [busWord, h, h', hi4, hs, BitVec.getLsbD_eq_getElem, hi]
    · have : i = 36 := by omega
      subst this
      simp [busWord, BitVec.getLsbD_eq_getElem]

end Sys2Proof
end

