-- ==== Sys2Proof/Laws/Memory.lean ====
section
/-! SUPPORT. What a store of a cell does to the memory: the cell reads back, every other cell and byte is as before, and
the canonical form is kept. -/

namespace Sys2Proof.Machine

@[simp] theorem cellAt_nil (a : Nat) : cellAt [] a = none := rfl

@[simp] theorem cellAt_storeCell_same (m : Memory) (a : Nat) (x : MemCell) : cellAt (storeCell m a x) a = some x := by
  induction m with
  | nil => simp [storeCell, cellAt]
  | cons e m ih =>
    obtain ⟨k, y⟩ := e
    simp only [storeCell]
    split
    · simp [cellAt]
    · split
      · simp [cellAt]
      · rename_i h
        simp [cellAt, h, ih]

theorem cellAt_storeCell_other (m : Memory) {a b : Nat} (x : MemCell) (h : b ≠ a) :
    cellAt (storeCell m a x) b = cellAt m b := by
  induction m with
  | nil => simp [storeCell, cellAt, h]
  | cons e m ih =>
    obtain ⟨k, y⟩ := e
    simp only [storeCell]
    split
    · simp [cellAt, h]
    · split
      · rename_i hk
        subst hk
        simp [cellAt, h]
      · simp [cellAt, ih]

/-- Every byte outside the stored cell reads as before (20_memory R61). -/
theorem byteAt_storeCell_other (m : Memory) {a b : Nat} (x : MemCell) (h : b - b % 8 ≠ a) :
    byteAt (storeCell m a x) b = byteAt m b := by
  simp [byteAt, cellAt_storeCell_other m x h]

/-- The bytes of a stored cell are the stored data's, least significant first (20_memory R61). -/
theorem byteAt_storeCell_same (m : Memory) {a b : Nat} (x : MemCell) (h : b - b % 8 = a) :
    byteAt (storeCell m a x) b = some (x.data.extractLsb' (8 * (b % 8)) 8) := by
  simp [byteAt, h]

/-- A stored entry is the new one or an old one. -/
theorem mem_storeCell {m : Memory} {a : Nat} {x : MemCell} {e : Nat × MemCell} (h : e ∈ storeCell m a x) :
    e = (a, x) ∨ e ∈ m := by
  induction m with
  | nil => simpa [storeCell] using h
  | cons f m ih =>
    obtain ⟨k, y⟩ := f
    simp only [storeCell] at h
    split at h
    · simpa using h
    · split at h
      · rcases List.mem_cons.1 h with h | h
        · exact .inl h
        · exact .inr (List.mem_cons_of_mem _ h)
      · rcases List.mem_cons.1 h with h | h
        · exact .inr (by simp [h])
        · exact (ih h).imp id (List.mem_cons_of_mem _)

theorem storeCell_pairwise {m : Memory} (a : Nat) (x : MemCell) (h : m.Pairwise (fun u v => u.1 < v.1)) :
    (storeCell m a x).Pairwise (fun u v => u.1 < v.1) := by
  induction m with
  | nil => simp [storeCell]
  | cons e m ih =>
    obtain ⟨k, y⟩ := e
    obtain ⟨hk, hm⟩ := List.pairwise_cons.1 h
    simp only [storeCell]
    split
    · rename_i hlt
      refine List.pairwise_cons.2 ⟨fun u hu => ?_, h⟩
      rcases List.mem_cons.1 hu with rfl | hu
      · exact hlt
      · exact Nat.lt_trans hlt (hk u hu)
    · split
      · rename_i heq
        subst heq
        exact List.pairwise_cons.2 ⟨hk, hm⟩
      · refine List.pairwise_cons.2 ⟨fun u hu => ?_, ih hm⟩
        rcases mem_storeCell hu with rfl | hu
        · exact Nat.lt_of_le_of_ne (Nat.le_of_not_lt ‹_›) (Ne.symm ‹_›)
        · exact hk u hu

/-- The canonical form, spelled out. -/
theorem Memory.wf_iff (m : Memory) :
    Memory.wf m = true ↔ m.Pairwise (fun u v => u.1 < v.1) ∧ ∀ e ∈ m, e.1 % 8 = 0 ∧ e.1 < 2 ^ 32 := by
  simp [Memory.wf]

/-- A store at an aligned 32-bit address keeps the canonical form. -/
theorem storeCell_wf {m : Memory} {a : Nat} (x : MemCell) (h : Memory.wf m = true) (ha : a % 8 = 0)
    (hlt : a < 2 ^ 32) : Memory.wf (storeCell m a x) = true := by
  rw [Memory.wf_iff] at h ⊢
  refine ⟨storeCell_pairwise a x h.1, fun e he => ?_⟩
  rcases mem_storeCell he with rfl | he
  · exact ⟨ha, hlt⟩
  · exact h.2 e he

/-- A cell that is there has a listed address. -/
theorem mem_of_cellAt {m : Memory} {a : Nat} {x : MemCell} (h : cellAt m a = some x) : (a, x) ∈ m := by
  induction m with
  | nil => simp [cellAt] at h
  | cons e m ih =>
    obtain ⟨k, y⟩ := e
    simp only [cellAt] at h
    split at h
    · rename_i hk
      simp_all
    · exact List.mem_cons_of_mem _ (ih h)

/-- An aligned address, as a number. -/
theorem aligned8_iff (a : Addr) : aligned8 a = true ↔ a.toNat % 8 = 0 := by
  simp [aligned8, BitVec.toNat_eq]

end Sys2Proof.Machine
end

