-- ==== Sys2Proof/Laws/State.lean ====
section
/-! SUPPORT. One lemma per field per single-field update of the state, and for taking an abort: what is read after the
update. With them no proof unfolds a record update. -/

namespace Sys2Proof.Machine

variable (s : State)

/-! ### State.setD -/

@[simp] theorem State.setD_d (x : Word64) : (s.setD x).d = x := rfl
@[simp] theorem State.setD_a (x : Word64) : (s.setD x).a = s.a := rfl
@[simp] theorem State.setD_w (x : Word64) : (s.setD x).w = s.w := rfl
@[simp] theorem State.setD_p (x : Word64) : (s.setD x).p = s.p := rfl
@[simp] theorem State.setD_stepCtr (x : Word64) : (s.setD x).stepCtr = s.stepCtr := rfl
@[simp] theorem State.setD_busy (x : Word64) : (s.setD x).busy = s.busy := rfl
@[simp] theorem State.setD_abort (x : Word64) : (s.setD x).abort = s.abort := rfl
@[simp] theorem State.setD_cause (x : Word64) : (s.setD x).cause = s.cause := rfl
@[simp] theorem State.setD_inHandler (x : Word64) : (s.setD x).inHandler = s.inHandler := rfl
@[simp] theorem State.setD_eccCtl (x : Word64) : (s.setD x).eccCtl = s.eccCtl := rfl
@[simp] theorem State.setD_ramCtl (x : Word64) : (s.setD x).ramCtl = s.ramCtl := rfl
@[simp] theorem State.setD_lat (x : Word64) : (s.setD x).lat = s.lat := rfl
@[simp] theorem State.setD_fs (x : Word64) : (s.setD x).fs = s.fs := rfl
@[simp] theorem State.setD_out (x : Word64) : (s.setD x).out = s.out := rfl
@[simp] theorem State.setD_mem (x : Word64) : (s.setD x).mem = s.mem := rfl
@[simp] theorem State.setD_booted (x : Word64) : (s.setD x).booted = s.booted := rfl
@[simp] theorem State.setD_hostOps (x : Word64) : (s.setD x).hostOps = s.hostOps := rfl
@[simp] theorem State.setD_turns (x : Word64) : (s.setD x).turns = s.turns := rfl
@[simp] theorem State.setD_replies (x : Word64) : (s.setD x).replies = s.replies := rfl
@[simp] theorem State.setD_draws (x : Word64) : (s.setD x).draws = s.draws := rfl

/-! ### State.setA -/

@[simp] theorem State.setA_d (x : Addr) : (s.setA x).d = s.d := rfl
@[simp] theorem State.setA_a (x : Addr) : (s.setA x).a = x := rfl
@[simp] theorem State.setA_w (x : Addr) : (s.setA x).w = s.w := rfl
@[simp] theorem State.setA_p (x : Addr) : (s.setA x).p = s.p := rfl
@[simp] theorem State.setA_stepCtr (x : Addr) : (s.setA x).stepCtr = s.stepCtr := rfl
@[simp] theorem State.setA_busy (x : Addr) : (s.setA x).busy = s.busy := rfl
@[simp] theorem State.setA_abort (x : Addr) : (s.setA x).abort = s.abort := rfl
@[simp] theorem State.setA_cause (x : Addr) : (s.setA x).cause = s.cause := rfl
@[simp] theorem State.setA_inHandler (x : Addr) : (s.setA x).inHandler = s.inHandler := rfl
@[simp] theorem State.setA_eccCtl (x : Addr) : (s.setA x).eccCtl = s.eccCtl := rfl
@[simp] theorem State.setA_ramCtl (x : Addr) : (s.setA x).ramCtl = s.ramCtl := rfl
@[simp] theorem State.setA_lat (x : Addr) : (s.setA x).lat = s.lat := rfl
@[simp] theorem State.setA_fs (x : Addr) : (s.setA x).fs = s.fs := rfl
@[simp] theorem State.setA_out (x : Addr) : (s.setA x).out = s.out := rfl
@[simp] theorem State.setA_mem (x : Addr) : (s.setA x).mem = s.mem := rfl
@[simp] theorem State.setA_booted (x : Addr) : (s.setA x).booted = s.booted := rfl
@[simp] theorem State.setA_hostOps (x : Addr) : (s.setA x).hostOps = s.hostOps := rfl
@[simp] theorem State.setA_turns (x : Addr) : (s.setA x).turns = s.turns := rfl
@[simp] theorem State.setA_replies (x : Addr) : (s.setA x).replies = s.replies := rfl
@[simp] theorem State.setA_draws (x : Addr) : (s.setA x).draws = s.draws := rfl

/-! ### State.setW -/

@[simp] theorem State.setW_d (x : Word128) : (s.setW x).d = s.d := rfl
@[simp] theorem State.setW_a (x : Word128) : (s.setW x).a = s.a := rfl
@[simp] theorem State.setW_w (x : Word128) : (s.setW x).w = x := rfl
@[simp] theorem State.setW_p (x : Word128) : (s.setW x).p = s.p := rfl
@[simp] theorem State.setW_stepCtr (x : Word128) : (s.setW x).stepCtr = s.stepCtr := rfl
@[simp] theorem State.setW_busy (x : Word128) : (s.setW x).busy = s.busy := rfl
@[simp] theorem State.setW_abort (x : Word128) : (s.setW x).abort = s.abort := rfl
@[simp] theorem State.setW_cause (x : Word128) : (s.setW x).cause = s.cause := rfl
@[simp] theorem State.setW_inHandler (x : Word128) : (s.setW x).inHandler = s.inHandler := rfl
@[simp] theorem State.setW_eccCtl (x : Word128) : (s.setW x).eccCtl = s.eccCtl := rfl
@[simp] theorem State.setW_ramCtl (x : Word128) : (s.setW x).ramCtl = s.ramCtl := rfl
@[simp] theorem State.setW_lat (x : Word128) : (s.setW x).lat = s.lat := rfl
@[simp] theorem State.setW_fs (x : Word128) : (s.setW x).fs = s.fs := rfl
@[simp] theorem State.setW_out (x : Word128) : (s.setW x).out = s.out := rfl
@[simp] theorem State.setW_mem (x : Word128) : (s.setW x).mem = s.mem := rfl
@[simp] theorem State.setW_booted (x : Word128) : (s.setW x).booted = s.booted := rfl
@[simp] theorem State.setW_hostOps (x : Word128) : (s.setW x).hostOps = s.hostOps := rfl
@[simp] theorem State.setW_turns (x : Word128) : (s.setW x).turns = s.turns := rfl
@[simp] theorem State.setW_replies (x : Word128) : (s.setW x).replies = s.replies := rfl
@[simp] theorem State.setW_draws (x : Word128) : (s.setW x).draws = s.draws := rfl

/-! ### State.setP -/

@[simp] theorem State.setP_d (x : Byte) : (s.setP x).d = s.d := rfl
@[simp] theorem State.setP_a (x : Byte) : (s.setP x).a = s.a := rfl
@[simp] theorem State.setP_w (x : Byte) : (s.setP x).w = s.w := rfl
@[simp] theorem State.setP_p (x : Byte) : (s.setP x).p = x := rfl
@[simp] theorem State.setP_stepCtr (x : Byte) : (s.setP x).stepCtr = s.stepCtr := rfl
@[simp] theorem State.setP_busy (x : Byte) : (s.setP x).busy = s.busy := rfl
@[simp] theorem State.setP_abort (x : Byte) : (s.setP x).abort = s.abort := rfl
@[simp] theorem State.setP_cause (x : Byte) : (s.setP x).cause = s.cause := rfl
@[simp] theorem State.setP_inHandler (x : Byte) : (s.setP x).inHandler = s.inHandler := rfl
@[simp] theorem State.setP_eccCtl (x : Byte) : (s.setP x).eccCtl = s.eccCtl := rfl
@[simp] theorem State.setP_ramCtl (x : Byte) : (s.setP x).ramCtl = s.ramCtl := rfl
@[simp] theorem State.setP_lat (x : Byte) : (s.setP x).lat = s.lat := rfl
@[simp] theorem State.setP_fs (x : Byte) : (s.setP x).fs = s.fs := rfl
@[simp] theorem State.setP_out (x : Byte) : (s.setP x).out = s.out := rfl
@[simp] theorem State.setP_mem (x : Byte) : (s.setP x).mem = s.mem := rfl
@[simp] theorem State.setP_booted (x : Byte) : (s.setP x).booted = s.booted := rfl
@[simp] theorem State.setP_hostOps (x : Byte) : (s.setP x).hostOps = s.hostOps := rfl
@[simp] theorem State.setP_turns (x : Byte) : (s.setP x).turns = s.turns := rfl
@[simp] theorem State.setP_replies (x : Byte) : (s.setP x).replies = s.replies := rfl
@[simp] theorem State.setP_draws (x : Byte) : (s.setP x).draws = s.draws := rfl

/-! ### State.setStep -/

@[simp] theorem State.setStep_d (x : BitVec 4) : (s.setStep x).d = s.d := rfl
@[simp] theorem State.setStep_a (x : BitVec 4) : (s.setStep x).a = s.a := rfl
@[simp] theorem State.setStep_w (x : BitVec 4) : (s.setStep x).w = s.w := rfl
@[simp] theorem State.setStep_p (x : BitVec 4) : (s.setStep x).p = s.p := rfl
@[simp] theorem State.setStep_stepCtr (x : BitVec 4) : (s.setStep x).stepCtr = x := rfl
@[simp] theorem State.setStep_busy (x : BitVec 4) : (s.setStep x).busy = s.busy := rfl
@[simp] theorem State.setStep_abort (x : BitVec 4) : (s.setStep x).abort = s.abort := rfl
@[simp] theorem State.setStep_cause (x : BitVec 4) : (s.setStep x).cause = s.cause := rfl
@[simp] theorem State.setStep_inHandler (x : BitVec 4) : (s.setStep x).inHandler = s.inHandler := rfl
@[simp] theorem State.setStep_eccCtl (x : BitVec 4) : (s.setStep x).eccCtl = s.eccCtl := rfl
@[simp] theorem State.setStep_ramCtl (x : BitVec 4) : (s.setStep x).ramCtl = s.ramCtl := rfl
@[simp] theorem State.setStep_lat (x : BitVec 4) : (s.setStep x).lat = s.lat := rfl
@[simp] theorem State.setStep_fs (x : BitVec 4) : (s.setStep x).fs = s.fs := rfl
@[simp] theorem State.setStep_out (x : BitVec 4) : (s.setStep x).out = s.out := rfl
@[simp] theorem State.setStep_mem (x : BitVec 4) : (s.setStep x).mem = s.mem := rfl
@[simp] theorem State.setStep_booted (x : BitVec 4) : (s.setStep x).booted = s.booted := rfl
@[simp] theorem State.setStep_hostOps (x : BitVec 4) : (s.setStep x).hostOps = s.hostOps := rfl
@[simp] theorem State.setStep_turns (x : BitVec 4) : (s.setStep x).turns = s.turns := rfl
@[simp] theorem State.setStep_replies (x : BitVec 4) : (s.setStep x).replies = s.replies := rfl
@[simp] theorem State.setStep_draws (x : BitVec 4) : (s.setStep x).draws = s.draws := rfl

/-! ### State.setBusy -/

@[simp] theorem State.setBusy_d (x : Bool) : (s.setBusy x).d = s.d := rfl
@[simp] theorem State.setBusy_a (x : Bool) : (s.setBusy x).a = s.a := rfl
@[simp] theorem State.setBusy_w (x : Bool) : (s.setBusy x).w = s.w := rfl
@[simp] theorem State.setBusy_p (x : Bool) : (s.setBusy x).p = s.p := rfl
@[simp] theorem State.setBusy_stepCtr (x : Bool) : (s.setBusy x).stepCtr = s.stepCtr := rfl
@[simp] theorem State.setBusy_busy (x : Bool) : (s.setBusy x).busy = x := rfl
@[simp] theorem State.setBusy_abort (x : Bool) : (s.setBusy x).abort = s.abort := rfl
@[simp] theorem State.setBusy_cause (x : Bool) : (s.setBusy x).cause = s.cause := rfl
@[simp] theorem State.setBusy_inHandler (x : Bool) : (s.setBusy x).inHandler = s.inHandler := rfl
@[simp] theorem State.setBusy_eccCtl (x : Bool) : (s.setBusy x).eccCtl = s.eccCtl := rfl
@[simp] theorem State.setBusy_ramCtl (x : Bool) : (s.setBusy x).ramCtl = s.ramCtl := rfl
@[simp] theorem State.setBusy_lat (x : Bool) : (s.setBusy x).lat = s.lat := rfl
@[simp] theorem State.setBusy_fs (x : Bool) : (s.setBusy x).fs = s.fs := rfl
@[simp] theorem State.setBusy_out (x : Bool) : (s.setBusy x).out = s.out := rfl
@[simp] theorem State.setBusy_mem (x : Bool) : (s.setBusy x).mem = s.mem := rfl
@[simp] theorem State.setBusy_booted (x : Bool) : (s.setBusy x).booted = s.booted := rfl
@[simp] theorem State.setBusy_hostOps (x : Bool) : (s.setBusy x).hostOps = s.hostOps := rfl
@[simp] theorem State.setBusy_turns (x : Bool) : (s.setBusy x).turns = s.turns := rfl
@[simp] theorem State.setBusy_replies (x : Bool) : (s.setBusy x).replies = s.replies := rfl
@[simp] theorem State.setBusy_draws (x : Bool) : (s.setBusy x).draws = s.draws := rfl

/-! ### State.setInHandler -/

@[simp] theorem State.setInHandler_d (x : Bool) : (s.setInHandler x).d = s.d := rfl
@[simp] theorem State.setInHandler_a (x : Bool) : (s.setInHandler x).a = s.a := rfl
@[simp] theorem State.setInHandler_w (x : Bool) : (s.setInHandler x).w = s.w := rfl
@[simp] theorem State.setInHandler_p (x : Bool) : (s.setInHandler x).p = s.p := rfl
@[simp] theorem State.setInHandler_stepCtr (x : Bool) : (s.setInHandler x).stepCtr = s.stepCtr := rfl
@[simp] theorem State.setInHandler_busy (x : Bool) : (s.setInHandler x).busy = s.busy := rfl
@[simp] theorem State.setInHandler_abort (x : Bool) : (s.setInHandler x).abort = s.abort := rfl
@[simp] theorem State.setInHandler_cause (x : Bool) : (s.setInHandler x).cause = s.cause := rfl
@[simp] theorem State.setInHandler_inHandler (x : Bool) : (s.setInHandler x).inHandler = x := rfl
@[simp] theorem State.setInHandler_eccCtl (x : Bool) : (s.setInHandler x).eccCtl = s.eccCtl := rfl
@[simp] theorem State.setInHandler_ramCtl (x : Bool) : (s.setInHandler x).ramCtl = s.ramCtl := rfl
@[simp] theorem State.setInHandler_lat (x : Bool) : (s.setInHandler x).lat = s.lat := rfl
@[simp] theorem State.setInHandler_fs (x : Bool) : (s.setInHandler x).fs = s.fs := rfl
@[simp] theorem State.setInHandler_out (x : Bool) : (s.setInHandler x).out = s.out := rfl
@[simp] theorem State.setInHandler_mem (x : Bool) : (s.setInHandler x).mem = s.mem := rfl
@[simp] theorem State.setInHandler_booted (x : Bool) : (s.setInHandler x).booted = s.booted := rfl
@[simp] theorem State.setInHandler_hostOps (x : Bool) : (s.setInHandler x).hostOps = s.hostOps := rfl
@[simp] theorem State.setInHandler_turns (x : Bool) : (s.setInHandler x).turns = s.turns := rfl
@[simp] theorem State.setInHandler_replies (x : Bool) : (s.setInHandler x).replies = s.replies := rfl
@[simp] theorem State.setInHandler_draws (x : Bool) : (s.setInHandler x).draws = s.draws := rfl

/-! ### State.setEccCtl -/

@[simp] theorem State.setEccCtl_d (x : EccCtl) : (s.setEccCtl x).d = s.d := rfl
@[simp] theorem State.setEccCtl_a (x : EccCtl) : (s.setEccCtl x).a = s.a := rfl
@[simp] theorem State.setEccCtl_w (x : EccCtl) : (s.setEccCtl x).w = s.w := rfl
@[simp] theorem State.setEccCtl_p (x : EccCtl) : (s.setEccCtl x).p = s.p := rfl
@[simp] theorem State.setEccCtl_stepCtr (x : EccCtl) : (s.setEccCtl x).stepCtr = s.stepCtr := rfl
@[simp] theorem State.setEccCtl_busy (x : EccCtl) : (s.setEccCtl x).busy = s.busy := rfl
@[simp] theorem State.setEccCtl_abort (x : EccCtl) : (s.setEccCtl x).abort = s.abort := rfl
@[simp] theorem State.setEccCtl_cause (x : EccCtl) : (s.setEccCtl x).cause = s.cause := rfl
@[simp] theorem State.setEccCtl_inHandler (x : EccCtl) : (s.setEccCtl x).inHandler = s.inHandler := rfl
@[simp] theorem State.setEccCtl_eccCtl (x : EccCtl) : (s.setEccCtl x).eccCtl = x := rfl
@[simp] theorem State.setEccCtl_ramCtl (x : EccCtl) : (s.setEccCtl x).ramCtl = s.ramCtl := rfl
@[simp] theorem State.setEccCtl_lat (x : EccCtl) : (s.setEccCtl x).lat = s.lat := rfl
@[simp] theorem State.setEccCtl_fs (x : EccCtl) : (s.setEccCtl x).fs = s.fs := rfl
@[simp] theorem State.setEccCtl_out (x : EccCtl) : (s.setEccCtl x).out = s.out := rfl
@[simp] theorem State.setEccCtl_mem (x : EccCtl) : (s.setEccCtl x).mem = s.mem := rfl
@[simp] theorem State.setEccCtl_booted (x : EccCtl) : (s.setEccCtl x).booted = s.booted := rfl
@[simp] theorem State.setEccCtl_hostOps (x : EccCtl) : (s.setEccCtl x).hostOps = s.hostOps := rfl
@[simp] theorem State.setEccCtl_turns (x : EccCtl) : (s.setEccCtl x).turns = s.turns := rfl
@[simp] theorem State.setEccCtl_replies (x : EccCtl) : (s.setEccCtl x).replies = s.replies := rfl
@[simp] theorem State.setEccCtl_draws (x : EccCtl) : (s.setEccCtl x).draws = s.draws := rfl

/-! ### State.setRamCtl -/

@[simp] theorem State.setRamCtl_d (x : RamCtl) : (s.setRamCtl x).d = s.d := rfl
@[simp] theorem State.setRamCtl_a (x : RamCtl) : (s.setRamCtl x).a = s.a := rfl
@[simp] theorem State.setRamCtl_w (x : RamCtl) : (s.setRamCtl x).w = s.w := rfl
@[simp] theorem State.setRamCtl_p (x : RamCtl) : (s.setRamCtl x).p = s.p := rfl
@[simp] theorem State.setRamCtl_stepCtr (x : RamCtl) : (s.setRamCtl x).stepCtr = s.stepCtr := rfl
@[simp] theorem State.setRamCtl_busy (x : RamCtl) : (s.setRamCtl x).busy = s.busy := rfl
@[simp] theorem State.setRamCtl_abort (x : RamCtl) : (s.setRamCtl x).abort = s.abort := rfl
@[simp] theorem State.setRamCtl_cause (x : RamCtl) : (s.setRamCtl x).cause = s.cause := rfl
@[simp] theorem State.setRamCtl_inHandler (x : RamCtl) : (s.setRamCtl x).inHandler = s.inHandler := rfl
@[simp] theorem State.setRamCtl_eccCtl (x : RamCtl) : (s.setRamCtl x).eccCtl = s.eccCtl := rfl
@[simp] theorem State.setRamCtl_ramCtl (x : RamCtl) : (s.setRamCtl x).ramCtl = x := rfl
@[simp] theorem State.setRamCtl_lat (x : RamCtl) : (s.setRamCtl x).lat = s.lat := rfl
@[simp] theorem State.setRamCtl_fs (x : RamCtl) : (s.setRamCtl x).fs = s.fs := rfl
@[simp] theorem State.setRamCtl_out (x : RamCtl) : (s.setRamCtl x).out = s.out := rfl
@[simp] theorem State.setRamCtl_mem (x : RamCtl) : (s.setRamCtl x).mem = s.mem := rfl
@[simp] theorem State.setRamCtl_booted (x : RamCtl) : (s.setRamCtl x).booted = s.booted := rfl
@[simp] theorem State.setRamCtl_hostOps (x : RamCtl) : (s.setRamCtl x).hostOps = s.hostOps := rfl
@[simp] theorem State.setRamCtl_turns (x : RamCtl) : (s.setRamCtl x).turns = s.turns := rfl
@[simp] theorem State.setRamCtl_replies (x : RamCtl) : (s.setRamCtl x).replies = s.replies := rfl
@[simp] theorem State.setRamCtl_draws (x : RamCtl) : (s.setRamCtl x).draws = s.draws := rfl

/-! ### State.setLat -/

@[simp] theorem State.setLat_d (x : Latches) : (s.setLat x).d = s.d := rfl
@[simp] theorem State.setLat_a (x : Latches) : (s.setLat x).a = s.a := rfl
@[simp] theorem State.setLat_w (x : Latches) : (s.setLat x).w = s.w := rfl
@[simp] theorem State.setLat_p (x : Latches) : (s.setLat x).p = s.p := rfl
@[simp] theorem State.setLat_stepCtr (x : Latches) : (s.setLat x).stepCtr = s.stepCtr := rfl
@[simp] theorem State.setLat_busy (x : Latches) : (s.setLat x).busy = s.busy := rfl
@[simp] theorem State.setLat_abort (x : Latches) : (s.setLat x).abort = s.abort := rfl
@[simp] theorem State.setLat_cause (x : Latches) : (s.setLat x).cause = s.cause := rfl
@[simp] theorem State.setLat_inHandler (x : Latches) : (s.setLat x).inHandler = s.inHandler := rfl
@[simp] theorem State.setLat_eccCtl (x : Latches) : (s.setLat x).eccCtl = s.eccCtl := rfl
@[simp] theorem State.setLat_ramCtl (x : Latches) : (s.setLat x).ramCtl = s.ramCtl := rfl
@[simp] theorem State.setLat_lat (x : Latches) : (s.setLat x).lat = x := rfl
@[simp] theorem State.setLat_fs (x : Latches) : (s.setLat x).fs = s.fs := rfl
@[simp] theorem State.setLat_out (x : Latches) : (s.setLat x).out = s.out := rfl
@[simp] theorem State.setLat_mem (x : Latches) : (s.setLat x).mem = s.mem := rfl
@[simp] theorem State.setLat_booted (x : Latches) : (s.setLat x).booted = s.booted := rfl
@[simp] theorem State.setLat_hostOps (x : Latches) : (s.setLat x).hostOps = s.hostOps := rfl
@[simp] theorem State.setLat_turns (x : Latches) : (s.setLat x).turns = s.turns := rfl
@[simp] theorem State.setLat_replies (x : Latches) : (s.setLat x).replies = s.replies := rfl
@[simp] theorem State.setLat_draws (x : Latches) : (s.setLat x).draws = s.draws := rfl

/-! ### State.setFs -/

@[simp] theorem State.setFs_d (x : FaultStatus) : (s.setFs x).d = s.d := rfl
@[simp] theorem State.setFs_a (x : FaultStatus) : (s.setFs x).a = s.a := rfl
@[simp] theorem State.setFs_w (x : FaultStatus) : (s.setFs x).w = s.w := rfl
@[simp] theorem State.setFs_p (x : FaultStatus) : (s.setFs x).p = s.p := rfl
@[simp] theorem State.setFs_stepCtr (x : FaultStatus) : (s.setFs x).stepCtr = s.stepCtr := rfl
@[simp] theorem State.setFs_busy (x : FaultStatus) : (s.setFs x).busy = s.busy := rfl
@[simp] theorem State.setFs_abort (x : FaultStatus) : (s.setFs x).abort = s.abort := rfl
@[simp] theorem State.setFs_cause (x : FaultStatus) : (s.setFs x).cause = s.cause := rfl
@[simp] theorem State.setFs_inHandler (x : FaultStatus) : (s.setFs x).inHandler = s.inHandler := rfl
@[simp] theorem State.setFs_eccCtl (x : FaultStatus) : (s.setFs x).eccCtl = s.eccCtl := rfl
@[simp] theorem State.setFs_ramCtl (x : FaultStatus) : (s.setFs x).ramCtl = s.ramCtl := rfl
@[simp] theorem State.setFs_lat (x : FaultStatus) : (s.setFs x).lat = s.lat := rfl
@[simp] theorem State.setFs_fs (x : FaultStatus) : (s.setFs x).fs = x := rfl
@[simp] theorem State.setFs_out (x : FaultStatus) : (s.setFs x).out = s.out := rfl
@[simp] theorem State.setFs_mem (x : FaultStatus) : (s.setFs x).mem = s.mem := rfl
@[simp] theorem State.setFs_booted (x : FaultStatus) : (s.setFs x).booted = s.booted := rfl
@[simp] theorem State.setFs_hostOps (x : FaultStatus) : (s.setFs x).hostOps = s.hostOps := rfl
@[simp] theorem State.setFs_turns (x : FaultStatus) : (s.setFs x).turns = s.turns := rfl
@[simp] theorem State.setFs_replies (x : FaultStatus) : (s.setFs x).replies = s.replies := rfl
@[simp] theorem State.setFs_draws (x : FaultStatus) : (s.setFs x).draws = s.draws := rfl

/-! ### State.emit -/

@[simp] theorem State.emit_d (x : List Event) : (s.emit x).d = s.d := rfl
@[simp] theorem State.emit_a (x : List Event) : (s.emit x).a = s.a := rfl
@[simp] theorem State.emit_w (x : List Event) : (s.emit x).w = s.w := rfl
@[simp] theorem State.emit_p (x : List Event) : (s.emit x).p = s.p := rfl
@[simp] theorem State.emit_stepCtr (x : List Event) : (s.emit x).stepCtr = s.stepCtr := rfl
@[simp] theorem State.emit_busy (x : List Event) : (s.emit x).busy = s.busy := rfl
@[simp] theorem State.emit_abort (x : List Event) : (s.emit x).abort = s.abort := rfl
@[simp] theorem State.emit_cause (x : List Event) : (s.emit x).cause = s.cause := rfl
@[simp] theorem State.emit_inHandler (x : List Event) : (s.emit x).inHandler = s.inHandler := rfl
@[simp] theorem State.emit_eccCtl (x : List Event) : (s.emit x).eccCtl = s.eccCtl := rfl
@[simp] theorem State.emit_ramCtl (x : List Event) : (s.emit x).ramCtl = s.ramCtl := rfl
@[simp] theorem State.emit_lat (x : List Event) : (s.emit x).lat = s.lat := rfl
@[simp] theorem State.emit_fs (x : List Event) : (s.emit x).fs = s.fs := rfl
@[simp] theorem State.emit_out (x : List Event) : (s.emit x).out = s.out ++ x := rfl
@[simp] theorem State.emit_mem (x : List Event) : (s.emit x).mem = s.mem := rfl
@[simp] theorem State.emit_booted (x : List Event) : (s.emit x).booted = s.booted := rfl
@[simp] theorem State.emit_hostOps (x : List Event) : (s.emit x).hostOps = s.hostOps := rfl
@[simp] theorem State.emit_turns (x : List Event) : (s.emit x).turns = s.turns := rfl
@[simp] theorem State.emit_replies (x : List Event) : (s.emit x).replies = s.replies := rfl
@[simp] theorem State.emit_draws (x : List Event) : (s.emit x).draws = s.draws := rfl

/-! ### State.setMem -/

@[simp] theorem State.setMem_d (x : Memory) : (s.setMem x).d = s.d := rfl
@[simp] theorem State.setMem_a (x : Memory) : (s.setMem x).a = s.a := rfl
@[simp] theorem State.setMem_w (x : Memory) : (s.setMem x).w = s.w := rfl
@[simp] theorem State.setMem_p (x : Memory) : (s.setMem x).p = s.p := rfl
@[simp] theorem State.setMem_stepCtr (x : Memory) : (s.setMem x).stepCtr = s.stepCtr := rfl
@[simp] theorem State.setMem_busy (x : Memory) : (s.setMem x).busy = s.busy := rfl
@[simp] theorem State.setMem_abort (x : Memory) : (s.setMem x).abort = s.abort := rfl
@[simp] theorem State.setMem_cause (x : Memory) : (s.setMem x).cause = s.cause := rfl
@[simp] theorem State.setMem_inHandler (x : Memory) : (s.setMem x).inHandler = s.inHandler := rfl
@[simp] theorem State.setMem_eccCtl (x : Memory) : (s.setMem x).eccCtl = s.eccCtl := rfl
@[simp] theorem State.setMem_ramCtl (x : Memory) : (s.setMem x).ramCtl = s.ramCtl := rfl
@[simp] theorem State.setMem_lat (x : Memory) : (s.setMem x).lat = s.lat := rfl
@[simp] theorem State.setMem_fs (x : Memory) : (s.setMem x).fs = s.fs := rfl
@[simp] theorem State.setMem_out (x : Memory) : (s.setMem x).out = s.out := rfl
@[simp] theorem State.setMem_mem (x : Memory) : (s.setMem x).mem = x := rfl
@[simp] theorem State.setMem_booted (x : Memory) : (s.setMem x).booted = s.booted := rfl
@[simp] theorem State.setMem_hostOps (x : Memory) : (s.setMem x).hostOps = s.hostOps := rfl
@[simp] theorem State.setMem_turns (x : Memory) : (s.setMem x).turns = s.turns := rfl
@[simp] theorem State.setMem_replies (x : Memory) : (s.setMem x).replies = s.replies := rfl
@[simp] theorem State.setMem_draws (x : Memory) : (s.setMem x).draws = s.draws := rfl

/-! ### State.setBooted -/

@[simp] theorem State.setBooted_d (x : Bool) : (s.setBooted x).d = s.d := rfl
@[simp] theorem State.setBooted_a (x : Bool) : (s.setBooted x).a = s.a := rfl
@[simp] theorem State.setBooted_w (x : Bool) : (s.setBooted x).w = s.w := rfl
@[simp] theorem State.setBooted_p (x : Bool) : (s.setBooted x).p = s.p := rfl
@[simp] theorem State.setBooted_stepCtr (x : Bool) : (s.setBooted x).stepCtr = s.stepCtr := rfl
@[simp] theorem State.setBooted_busy (x : Bool) : (s.setBooted x).busy = s.busy := rfl
@[simp] theorem State.setBooted_abort (x : Bool) : (s.setBooted x).abort = s.abort := rfl
@[simp] theorem State.setBooted_cause (x : Bool) : (s.setBooted x).cause = s.cause := rfl
@[simp] theorem State.setBooted_inHandler (x : Bool) : (s.setBooted x).inHandler = s.inHandler := rfl
@[simp] theorem State.setBooted_eccCtl (x : Bool) : (s.setBooted x).eccCtl = s.eccCtl := rfl
@[simp] theorem State.setBooted_ramCtl (x : Bool) : (s.setBooted x).ramCtl = s.ramCtl := rfl
@[simp] theorem State.setBooted_lat (x : Bool) : (s.setBooted x).lat = s.lat := rfl
@[simp] theorem State.setBooted_fs (x : Bool) : (s.setBooted x).fs = s.fs := rfl
@[simp] theorem State.setBooted_out (x : Bool) : (s.setBooted x).out = s.out := rfl
@[simp] theorem State.setBooted_mem (x : Bool) : (s.setBooted x).mem = s.mem := rfl
@[simp] theorem State.setBooted_booted (x : Bool) : (s.setBooted x).booted = x := rfl
@[simp] theorem State.setBooted_hostOps (x : Bool) : (s.setBooted x).hostOps = s.hostOps := rfl
@[simp] theorem State.setBooted_turns (x : Bool) : (s.setBooted x).turns = s.turns := rfl
@[simp] theorem State.setBooted_replies (x : Bool) : (s.setBooted x).replies = s.replies := rfl
@[simp] theorem State.setBooted_draws (x : Bool) : (s.setBooted x).draws = s.draws := rfl

/-! ### State.setHostOps -/

@[simp] theorem State.setHostOps_d (x : List BusWord) : (s.setHostOps x).d = s.d := rfl
@[simp] theorem State.setHostOps_a (x : List BusWord) : (s.setHostOps x).a = s.a := rfl
@[simp] theorem State.setHostOps_w (x : List BusWord) : (s.setHostOps x).w = s.w := rfl
@[simp] theorem State.setHostOps_p (x : List BusWord) : (s.setHostOps x).p = s.p := rfl
@[simp] theorem State.setHostOps_stepCtr (x : List BusWord) : (s.setHostOps x).stepCtr = s.stepCtr := rfl
@[simp] theorem State.setHostOps_busy (x : List BusWord) : (s.setHostOps x).busy = s.busy := rfl
@[simp] theorem State.setHostOps_abort (x : List BusWord) : (s.setHostOps x).abort = s.abort := rfl
@[simp] theorem State.setHostOps_cause (x : List BusWord) : (s.setHostOps x).cause = s.cause := rfl
@[simp] theorem State.setHostOps_inHandler (x : List BusWord) : (s.setHostOps x).inHandler = s.inHandler := rfl
@[simp] theorem State.setHostOps_eccCtl (x : List BusWord) : (s.setHostOps x).eccCtl = s.eccCtl := rfl
@[simp] theorem State.setHostOps_ramCtl (x : List BusWord) : (s.setHostOps x).ramCtl = s.ramCtl := rfl
@[simp] theorem State.setHostOps_lat (x : List BusWord) : (s.setHostOps x).lat = s.lat := rfl
@[simp] theorem State.setHostOps_fs (x : List BusWord) : (s.setHostOps x).fs = s.fs := rfl
@[simp] theorem State.setHostOps_out (x : List BusWord) : (s.setHostOps x).out = s.out := rfl
@[simp] theorem State.setHostOps_mem (x : List BusWord) : (s.setHostOps x).mem = s.mem := rfl
@[simp] theorem State.setHostOps_booted (x : List BusWord) : (s.setHostOps x).booted = s.booted := rfl
@[simp] theorem State.setHostOps_hostOps (x : List BusWord) : (s.setHostOps x).hostOps = x := rfl
@[simp] theorem State.setHostOps_turns (x : List BusWord) : (s.setHostOps x).turns = s.turns := rfl
@[simp] theorem State.setHostOps_replies (x : List BusWord) : (s.setHostOps x).replies = s.replies := rfl
@[simp] theorem State.setHostOps_draws (x : List BusWord) : (s.setHostOps x).draws = s.draws := rfl

/-! ### State.setTurns -/

@[simp] theorem State.setTurns_d (x : List Turn) : (s.setTurns x).d = s.d := rfl
@[simp] theorem State.setTurns_a (x : List Turn) : (s.setTurns x).a = s.a := rfl
@[simp] theorem State.setTurns_w (x : List Turn) : (s.setTurns x).w = s.w := rfl
@[simp] theorem State.setTurns_p (x : List Turn) : (s.setTurns x).p = s.p := rfl
@[simp] theorem State.setTurns_stepCtr (x : List Turn) : (s.setTurns x).stepCtr = s.stepCtr := rfl
@[simp] theorem State.setTurns_busy (x : List Turn) : (s.setTurns x).busy = s.busy := rfl
@[simp] theorem State.setTurns_abort (x : List Turn) : (s.setTurns x).abort = s.abort := rfl
@[simp] theorem State.setTurns_cause (x : List Turn) : (s.setTurns x).cause = s.cause := rfl
@[simp] theorem State.setTurns_inHandler (x : List Turn) : (s.setTurns x).inHandler = s.inHandler := rfl
@[simp] theorem State.setTurns_eccCtl (x : List Turn) : (s.setTurns x).eccCtl = s.eccCtl := rfl
@[simp] theorem State.setTurns_ramCtl (x : List Turn) : (s.setTurns x).ramCtl = s.ramCtl := rfl
@[simp] theorem State.setTurns_lat (x : List Turn) : (s.setTurns x).lat = s.lat := rfl
@[simp] theorem State.setTurns_fs (x : List Turn) : (s.setTurns x).fs = s.fs := rfl
@[simp] theorem State.setTurns_out (x : List Turn) : (s.setTurns x).out = s.out := rfl
@[simp] theorem State.setTurns_mem (x : List Turn) : (s.setTurns x).mem = s.mem := rfl
@[simp] theorem State.setTurns_booted (x : List Turn) : (s.setTurns x).booted = s.booted := rfl
@[simp] theorem State.setTurns_hostOps (x : List Turn) : (s.setTurns x).hostOps = s.hostOps := rfl
@[simp] theorem State.setTurns_turns (x : List Turn) : (s.setTurns x).turns = x := rfl
@[simp] theorem State.setTurns_replies (x : List Turn) : (s.setTurns x).replies = s.replies := rfl
@[simp] theorem State.setTurns_draws (x : List Turn) : (s.setTurns x).draws = s.draws := rfl

/-! ### State.reply -/

@[simp] theorem State.reply_d (x : Word32) : (s.reply x).d = s.d := rfl
@[simp] theorem State.reply_a (x : Word32) : (s.reply x).a = s.a := rfl
@[simp] theorem State.reply_w (x : Word32) : (s.reply x).w = s.w := rfl
@[simp] theorem State.reply_p (x : Word32) : (s.reply x).p = s.p := rfl
@[simp] theorem State.reply_stepCtr (x : Word32) : (s.reply x).stepCtr = s.stepCtr := rfl
@[simp] theorem State.reply_busy (x : Word32) : (s.reply x).busy = s.busy := rfl
@[simp] theorem State.reply_abort (x : Word32) : (s.reply x).abort = s.abort := rfl
@[simp] theorem State.reply_cause (x : Word32) : (s.reply x).cause = s.cause := rfl
@[simp] theorem State.reply_inHandler (x : Word32) : (s.reply x).inHandler = s.inHandler := rfl
@[simp] theorem State.reply_eccCtl (x : Word32) : (s.reply x).eccCtl = s.eccCtl := rfl
@[simp] theorem State.reply_ramCtl (x : Word32) : (s.reply x).ramCtl = s.ramCtl := rfl
@[simp] theorem State.reply_lat (x : Word32) : (s.reply x).lat = s.lat := rfl
@[simp] theorem State.reply_fs (x : Word32) : (s.reply x).fs = s.fs := rfl
@[simp] theorem State.reply_out (x : Word32) : (s.reply x).out = s.out := rfl
@[simp] theorem State.reply_mem (x : Word32) : (s.reply x).mem = s.mem := rfl
@[simp] theorem State.reply_booted (x : Word32) : (s.reply x).booted = s.booted := rfl
@[simp] theorem State.reply_hostOps (x : Word32) : (s.reply x).hostOps = s.hostOps := rfl
@[simp] theorem State.reply_turns (x : Word32) : (s.reply x).turns = s.turns := rfl
@[simp] theorem State.reply_replies (x : Word32) : (s.reply x).replies = s.replies ++ [x] := rfl
@[simp] theorem State.reply_draws (x : Word32) : (s.reply x).draws = s.draws := rfl

/-! ### State.tookDraws -/

@[simp] theorem State.tookDraws_d (x : Nat) : (s.tookDraws x).d = s.d := rfl
@[simp] theorem State.tookDraws_a (x : Nat) : (s.tookDraws x).a = s.a := rfl
@[simp] theorem State.tookDraws_w (x : Nat) : (s.tookDraws x).w = s.w := rfl
@[simp] theorem State.tookDraws_p (x : Nat) : (s.tookDraws x).p = s.p := rfl
@[simp] theorem State.tookDraws_stepCtr (x : Nat) : (s.tookDraws x).stepCtr = s.stepCtr := rfl
@[simp] theorem State.tookDraws_busy (x : Nat) : (s.tookDraws x).busy = s.busy := rfl
@[simp] theorem State.tookDraws_abort (x : Nat) : (s.tookDraws x).abort = s.abort := rfl
@[simp] theorem State.tookDraws_cause (x : Nat) : (s.tookDraws x).cause = s.cause := rfl
@[simp] theorem State.tookDraws_inHandler (x : Nat) : (s.tookDraws x).inHandler = s.inHandler := rfl
@[simp] theorem State.tookDraws_eccCtl (x : Nat) : (s.tookDraws x).eccCtl = s.eccCtl := rfl
@[simp] theorem State.tookDraws_ramCtl (x : Nat) : (s.tookDraws x).ramCtl = s.ramCtl := rfl
@[simp] theorem State.tookDraws_lat (x : Nat) : (s.tookDraws x).lat = s.lat := rfl
@[simp] theorem State.tookDraws_fs (x : Nat) : (s.tookDraws x).fs = s.fs := rfl
@[simp] theorem State.tookDraws_out (x : Nat) : (s.tookDraws x).out = s.out := rfl
@[simp] theorem State.tookDraws_mem (x : Nat) : (s.tookDraws x).mem = s.mem := rfl
@[simp] theorem State.tookDraws_booted (x : Nat) : (s.tookDraws x).booted = s.booted := rfl
@[simp] theorem State.tookDraws_hostOps (x : Nat) : (s.tookDraws x).hostOps = s.hostOps := rfl
@[simp] theorem State.tookDraws_turns (x : Nat) : (s.tookDraws x).turns = s.turns := rfl
@[simp] theorem State.tookDraws_replies (x : Nat) : (s.tookDraws x).replies = s.replies := rfl
@[simp] theorem State.tookDraws_draws (x : Nat) : (s.tookDraws x).draws = s.draws + x := rfl

/-! ### raiseAbort: only ABORT, CAUSE and BUSY change (60_exceptions R201) -/

@[simp] theorem raiseAbort_d (x : Cause) : (raiseAbort x s).d = s.d := rfl
@[simp] theorem raiseAbort_a (x : Cause) : (raiseAbort x s).a = s.a := rfl
@[simp] theorem raiseAbort_w (x : Cause) : (raiseAbort x s).w = s.w := rfl
@[simp] theorem raiseAbort_p (x : Cause) : (raiseAbort x s).p = s.p := rfl
@[simp] theorem raiseAbort_stepCtr (x : Cause) : (raiseAbort x s).stepCtr = s.stepCtr := rfl
@[simp] theorem raiseAbort_busy (x : Cause) : (raiseAbort x s).busy = false := rfl
@[simp] theorem raiseAbort_abort (x : Cause) : (raiseAbort x s).abort = true := rfl
@[simp] theorem raiseAbort_cause (x : Cause) : (raiseAbort x s).cause = x := rfl
@[simp] theorem raiseAbort_inHandler (x : Cause) : (raiseAbort x s).inHandler = s.inHandler := rfl
@[simp] theorem raiseAbort_eccCtl (x : Cause) : (raiseAbort x s).eccCtl = s.eccCtl := rfl
@[simp] theorem raiseAbort_ramCtl (x : Cause) : (raiseAbort x s).ramCtl = s.ramCtl := rfl
@[simp] theorem raiseAbort_lat (x : Cause) : (raiseAbort x s).lat = s.lat := rfl
@[simp] theorem raiseAbort_fs (x : Cause) : (raiseAbort x s).fs = s.fs := rfl
@[simp] theorem raiseAbort_out (x : Cause) : (raiseAbort x s).out = s.out := rfl
@[simp] theorem raiseAbort_mem (x : Cause) : (raiseAbort x s).mem = s.mem := rfl
@[simp] theorem raiseAbort_booted (x : Cause) : (raiseAbort x s).booted = s.booted := rfl
@[simp] theorem raiseAbort_hostOps (x : Cause) : (raiseAbort x s).hostOps = s.hostOps := rfl
@[simp] theorem raiseAbort_turns (x : Cause) : (raiseAbort x s).turns = s.turns := rfl
@[simp] theorem raiseAbort_replies (x : Cause) : (raiseAbort x s).replies = s.replies := rfl
@[simp] theorem raiseAbort_draws (x : Cause) : (raiseAbort x s).draws = s.draws := rfl

end Sys2Proof.Machine
end

