-- ==== Sys2Proof/Laws/Ops.lean ====
section
/-! SUPPORT. For each shared operation, one lemma that says everything it can do; later proofs cite these and unfold
nothing. -/

namespace Sys2Proof.Machine

/-! ### HOST writes (42_control_register_ops R148) -/

theorem hostWrite_accepted {f : State → State} {s : State} (hb : s.busy = false) (ha : s.abort = false) :
    hostWrite f s = f s := by simp [hostWrite, hb, ha]

theorem hostWrite_ignored {f : State → State} {s : State} (h : s.busy = true ∨ s.abort = true) :
    hostWrite f s = s := by rcases h with h | h <;> simp [hostWrite, h]

/-- A write is ignored, or accepted in a state that is neither busy nor aborted. -/
theorem hostWrite_cases (f : State → State) (s : State) :
    hostWrite f s = s ∨ (s.busy = false ∧ s.abort = false ∧ hostWrite f s = f s) := by
  cases hb : s.busy <;> cases ha : s.abort <;> simp [hostWrite, hb, ha]

/-! ### The register map -/

/-- A register write changes `D`, `A`, `W` or `P`, or nothing. -/
theorem busWriteReg_cases (r : RegIndex) (v : Word32) (s : State) :
    (∃ x, busWriteReg r v s = s.setD x) ∨ (∃ x, busWriteReg r v s = s.setA x) ∨
      (∃ x, busWriteReg r v s = s.setW x) ∨ (∃ x, busWriteReg r v s = s.setP x) ∨ busWriteReg r v s = s := by
  unfold busWriteReg
  split
  · exact .inl ⟨_, rfl⟩
  · exact .inl ⟨_, rfl⟩
  · exact .inr (.inl ⟨_, rfl⟩)
  · exact .inr (.inr (.inl ⟨_, rfl⟩))
  · exact .inr (.inr (.inl ⟨_, rfl⟩))
  · exact .inr (.inr (.inl ⟨_, rfl⟩))
  · exact .inr (.inr (.inl ⟨_, rfl⟩))
  · exact .inr (.inr (.inr (.inl ⟨_, rfl⟩)))
  · exact .inr (.inr (.inr (.inr rfl)))

/-! ### The checker (20_memory R67 to R75) -/

/-- A write of a cell changes the memory and nothing else. -/
theorem memWrite_eq (c : Params) (a : Addr) (v : Word64) (s : State) :
    memWrite c a v s =
      s.setMem (storeCell s.mem a.toNat ⟨v, if injectionHit c s a then s.eccCtl.parity else ecc c v a⟩) := rfl

/-- A capture changes the record of `FS` and the draws, and only when nothing was pending. -/
theorem capture_cases (c : Params) (syn : Byte) (s : State) :
    (s.fs.pending = true ∧ capture c syn s = s) ∨
      (s.fs.pending = false ∧ capture c syn s =
        (s.setFs ⟨true, Config.drawWord32 s.draws, Config.drawWord32 (s.draws + 1), sourceOf (c.classify syn),
          s.fs.action, s.fs.irqEnabled⟩).tookDraws 2) := by
  cases h : s.fs.pending <;> simp [capture, h]

/-- After a capture something is pending, and of the rest only the record and the draws may have changed. -/
theorem capture_frame (c : Params) (syn : Byte) (s : State) :
    ∃ f n, capture c syn s = (s.setFs f).tookDraws n ∧ f.pending = true ∧ f.action = s.fs.action ∧
      f.irqEnabled = s.fs.irqEnabled := by
  rcases capture_cases c syn s with ⟨hp, h⟩ | ⟨-, h⟩
  · exact ⟨s.fs, 0, h, hp, rfl, rfl⟩
  · exact ⟨_, 2, h, rfl, rfl, rfl⟩

/-- What a clear leaves: nothing pending, three drawn fields, the configuration as it was. -/
theorem clearInterrupt_eq (s : State) :
    clearInterrupt s =
      (s.setFs ⟨false, Config.drawWord32 s.draws, Config.drawWord32 (s.draws + 1), Config.drawSource (s.draws + 2),
        s.fs.action, s.fs.irqEnabled⟩).tookDraws 3 := rfl

/-- The test for a canonical value says what 10_state R51 lists. -/
theorem isCanonical_iff (d : Word64) : isCanonical d = true ↔ canonicalData d := by
  have h1 : faultedData .oneBit = 0x5A5A5A5A5A5A5A5B#64 := by decide
  have h2 : faultedData .twoBit = 0x5A5A5A5A5A5A5A59#64 := by decide
  simp [isCanonical, canonicalData, correctWord, h1, h2, or_assoc]

/-- Each of step 5's data values is canonical (43_fault_injector R178, 10_state R51). -/
theorem faultedData_canonical (df : FaultCode) : canonicalData (faultedData df) := by
  cases df
  · exact .inl (by decide)
  · exact .inr (.inl (by decide))
  · exact .inr (.inr (by decide))

/-- The draw for a cell that holds a canonical value is canonical (10_state R51). -/
theorem correctionDraw_canonical {d : Word64} (n : Nat) (h : canonicalData d) : canonicalData (correctionDraw d n) := by
  rw [correctionDraw, (isCanonical_iff d).2 h]
  exact faultedData_canonical _

/-- The bits a correction can be about are the data and parity bits whose column is the syndrome (20_memory R74). -/
theorem mem_indicated {rows : Fin 8 → Word128} {syn : Byte} {l : Nat} :
    l ∈ indicated rows syn ↔ (l < 64 ∨ (128 ≤ l ∧ l < 136)) ∧ extColumn rows l = syn := by
  simp only [indicated, List.mem_filter, List.mem_range, Bool.and_eq_true, Bool.or_eq_true, decide_eq_true_eq, beq_iff_eq]
  exact ⟨fun ⟨h1, h2, h3⟩ => ⟨by omega, h3⟩, fun ⟨h1, h2⟩ => ⟨by omega, by omega, h2⟩⟩

/-- The corrected data: the draw, the data as they were, or the data with the one indicated data bit flipped back. -/
theorem correctedData_cases (rows : Fin 8 → Word128) (syn : Byte) (d free : Word64) :
    correctedData rows syn d free = free ∨ correctedData rows syn d free = d ∨
      ∃ j, indicatesDataBit rows syn j ∧ correctedData rows syn d free = d ^^^ 1#64 <<< j := by
  unfold correctedData
  split
  · rename_i j h
    by_cases hj : j < 64
    · refine .inr (.inr ⟨j, ⟨hj, fun l hl => ?_⟩, if_pos hj⟩)
      have := mem_indicated (rows := rows) (syn := syn) (l := l)
      rw [h, List.mem_singleton] at this
      exact ⟨fun he => this.2 ⟨hl, he⟩, fun he => (this.1 he).2⟩
    · exact .inr (.inl (if_neg hj))
  · exact .inl rfl

/-- The automatic correction leaves the memory or rewrites the one cell; the draws apart, nothing else. -/
theorem autoCorrect_cases (c : Params) (a : Addr) (x : MemCell) (s : State) :
    (∃ n, autoCorrect c a x s = s.tookDraws n) ∨
      (s.ramCtl.autoCorrect = true ∧ c.classify (syndrome c a x) = .single ∧
        ∃ n free, (canonicalData x.data → canonicalData free) ∧
          autoCorrect c a x s = (s.setMem (storeCell s.mem a.toNat (correctedCell c a x free))).tookDraws n) := by
  unfold autoCorrect
  split
  · rename_i h
    simp only [Bool.and_eq_true, beq_iff_eq] at h
    cases Config.drawBit s.draws
    · exact .inl ⟨2, rfl⟩
    · exact .inr ⟨h.1, h.2, 2, _, correctionDraw_canonical _, rfl⟩
  · exact .inl ⟨0, rfl⟩

/-- What an evaluation of the checker may leave behind: of `FS` the record with the configuration kept, of the memory at
most the one cell rewritten to its corrected pair, and the draws. -/
theorem faultFound_cases (c : Params) (a : Addr) (x : MemCell) (s : State) :
    ∃ f m n, faultFound c a x s = ((s.setFs f).setMem m).tookDraws n ∧ f.pending = true ∧
      f.action = s.fs.action ∧ f.irqEnabled = s.fs.irqEnabled ∧
      (m = s.mem ∨ (s.ramCtl.autoCorrect = true ∧ c.classify (syndrome c a x) = .single ∧
        ∃ free, (canonicalData x.data → canonicalData free) ∧
          m = storeCell s.mem a.toNat (correctedCell c a x free))) := by
  obtain ⟨f, n, hc, hf⟩ := capture_frame c (syndrome c a x) s
  rw [faultFound, hc]
  rcases autoCorrect_cases c a x ((s.setFs f).tookDraws n) with ⟨k, h⟩ | ⟨ha, hs, k, d, hr, h⟩ <;> rw [h]
  · exact ⟨f, s.mem, n + k, by simp only [State.tookDraws, State.setFs, State.setMem, Nat.add_assoc], hf.1, hf.2.1,
      hf.2.2, .inl rfl⟩
  · exact ⟨f, storeCell s.mem a.toNat (correctedCell c a x d), n + k,
      by simp only [State.tookDraws, State.setFs, State.setMem, Nat.add_assoc], hf.1, hf.2.1, hf.2.2,
      .inr ⟨ha, hs, d, hr, rfl⟩⟩

/-- A read of a cell: no check when it is unwritten, ungated or has syndrome zero; else a fault is found. -/
theorem memRead_cases (c : Params) (a : Addr) (s : State) :
    (cellAt s.mem a.toNat = none ∧ memRead c a s = (Config.drawWord64 s.draws, s.tookDraws 1)) ∨
      (∃ x, cellAt s.mem a.toNat = some x ∧ (s.ramCtl.eccEn = false ∨ syndrome c a x = 0#8) ∧
        memRead c a s = (x.data, s)) ∨
      (∃ x, cellAt s.mem a.toNat = some x ∧ s.ramCtl.eccEn = true ∧ syndrome c a x ≠ 0#8 ∧
        memRead c a s = (Config.drawWord64 (faultFound c a x s).draws, (faultFound c a x s).tookDraws 1)) := by
  unfold memRead
  cases h : cellAt s.mem a.toNat with
  | none => exact .inl ⟨rfl, rfl⟩
  | some x =>
    refine .inr ?_
    cases he : s.ramCtl.eccEn
    · exact .inl ⟨x, rfl, .inl rfl, by simp⟩
    · by_cases hs : syndrome c a x = 0#8
      · exact .inl ⟨x, rfl, .inr hs, by simp [hs]⟩
      · exact .inr ⟨x, rfl, rfl, hs, by simp [hs]⟩

/-- What a read leaves behind, whatever it found. -/
theorem memRead_state (c : Params) (a : Addr) (s : State) :
    ∃ f m n, (memRead c a s).2 = ((s.setFs f).setMem m).tookDraws n ∧ f.action = s.fs.action ∧
      f.irqEnabled = s.fs.irqEnabled ∧ (s.fs.pending = true → f.pending = true) ∧
      (m = s.mem ∨ ∃ x free, cellAt s.mem a.toNat = some x ∧
        s.ramCtl.autoCorrect = true ∧ c.classify (syndrome c a x) = .single ∧
        (canonicalData x.data → canonicalData free) ∧ m = storeCell s.mem a.toNat (correctedCell c a x free)) := by
  rcases memRead_cases c a s with ⟨-, h⟩ | ⟨x, -, -, h⟩ | ⟨x, hx, -, -, h⟩ <;> rw [h]
  · exact ⟨s.fs, s.mem, 1, rfl, rfl, rfl, id, .inl rfl⟩
  · exact ⟨s.fs, s.mem, 0, rfl, rfl, rfl, id, .inl rfl⟩
  · obtain ⟨f, m, n, he, hp, ha, hi, hm⟩ := faultFound_cases c a x s
    exact ⟨f, m, n + 1, by rw [he]; rfl, ha, hi, fun _ => hp,
      hm.imp id fun ⟨hau, hsi, free, hr, hs⟩ => ⟨x, free, hx, hau, hsi, hr, hs⟩⟩

/-- What a background evaluation leaves behind. -/
theorem backgroundCheck_cases (c : Params) (a : Addr) (s : State) :
    (cellAt s.mem a.toNat = none ∧ backgroundCheck c a s = s) ∨
      ∃ x, cellAt s.mem a.toNat = some x ∧ backgroundCheck c a s = faultFound c a x s := by
  unfold backgroundCheck
  cases h : cellAt s.mem a.toNat with
  | none => exact .inl ⟨rfl, rfl⟩
  | some x => exact .inr ⟨x, rfl, rfl⟩

/-! ### The handler, reset and boot (60_exceptions, 70_reset) -/

/-- Handler step A, spelled out. -/
theorem handlerStepA_eq (c : Params) (s : State) :
    handlerStepA c s =
      (((s.setInHandler true).emit (handlerEvents c s.fs)).setFs
        ⟨false, Config.drawWord32 s.draws, Config.drawWord32 (s.draws + 1), Config.drawSource (s.draws + 2),
          s.fs.action, s.fs.irqEnabled⟩).tookDraws 3 := rfl

/-- Handler step B, spelled out. -/
theorem handlerStepB_eq (s : State) : handlerStepB s = (s.setRamCtl idleFlags).setInHandler false := rfl

/-- A reset brings every register to its reset value and keeps the four histories; latches and `FS` apart. -/
theorem resetStep_eq (s : State) :
    ∃ l f, f.pending = false ∧ resetStep s =
      { State.reset with
        lat := l
        fs := f
        out := s.out
        hostOps := s.hostOps
        turns := s.turns
        replies := s.replies
        draws := s.draws + 4 } := ⟨_, _, rfl, rfl⟩

/-- The boot step ends the boot phase, or aborts with InitFailed. -/
theorem bootStep_cases (s : State) :
    (Config.initOk s.draws = true ∧ bootStep s = (s.setBooted true).tookDraws 1) ∨
      (Config.initOk s.draws = false ∧ bootStep s = raiseAbort .initFailed ((s.setBooted true).tookDraws 1)) := by
  cases h : Config.initOk s.draws <;> simp [bootStep, h]

/-! ### SEQ (43_fault_injector) -/

/-- A step on the target cell goes on exactly when the target is aligned. -/
theorem onTarget_next {s t u : State} : onTarget s t = .next u ↔ aligned8 s.lat.ta = true ∧ u = t := by
  cases h : aligned8 s.lat.ta <;> simp [onTarget, h, eq_comm]

/-- The protocol step each value of `STEP` names. -/
theorem seqStep_cases {c : Params} {s t : State} (he : seqEnabled s = true) (h : seqStep c s = .next t) :
    (s.stepCtr = 1#4 ∧ aligned8 s.lat.ta = true ∧ t = (memWrite c s.lat.ta correctWord s).setStep 2#4) ∨
      (s.stepCtr = 2#4 ∧ t = seqCorrectParity c s) ∨
      (s.stepCtr = 3#4 ∧ t = seqWrongParities s) ∨
      (s.stepCtr = 4#4 ∧ t = seqSelectParity s) ∨
      (s.stepCtr = 5#4 ∧ t = seqSelectData s) ∨
      (s.stepCtr = 6#4 ∧ aligned8 s.lat.ta = true ∧ t = (memWrite c s.lat.ta s.lat.dsel s).setStep 7#4) ∨
      (s.stepCtr = 7#4 ∧ t = seqProgram c s) ∨
      (s.stepCtr = 8#4 ∧ aligned8 s.lat.ta = true ∧ t = (memWrite c s.lat.ta s.lat.dsel s).setStep 9#4) ∨
      (s.stepCtr = 9#4 ∧ t = seqSettle s) ∨
      (s.stepCtr = 10#4 ∧ aligned8 s.lat.ta = true ∧
        t = ((memRead c s.lat.ta s).2.setBusy false).setStep 0#4) := by
  have key : ∀ n : Nat, s.stepCtr.toNat = n → s.stepCtr = BitVec.ofNat 4 n := fun n hn => by
    rw [← hn]; simp
  simp only [seqEnabled, Bool.and_eq_true, decide_eq_true_eq] at he
  unfold seqStep at h
  split at h <;> rename_i hn
  · exact .inl ⟨key _ hn, onTarget_next.1 h⟩
  · exact .inr (.inl ⟨key _ hn, (Host.Outcome.next.inj h).symm⟩)
  · exact .inr (.inr (.inl ⟨key _ hn, (Host.Outcome.next.inj h).symm⟩))
  · exact .inr (.inr (.inr (.inl ⟨key _ hn, (Host.Outcome.next.inj h).symm⟩)))
  · exact .inr (.inr (.inr (.inr (.inl ⟨key _ hn, (Host.Outcome.next.inj h).symm⟩))))
  · exact .inr (.inr (.inr (.inr (.inr (.inl ⟨key _ hn, onTarget_next.1 h⟩)))))
  · exact .inr (.inr (.inr (.inr (.inr (.inr (.inl ⟨key _ hn, (Host.Outcome.next.inj h).symm⟩))))))
  · exact .inr (.inr (.inr (.inr (.inr (.inr (.inr (.inl ⟨key _ hn, onTarget_next.1 h⟩)))))))
  · exact .inr (.inr (.inr (.inr (.inr (.inr (.inr (.inr (.inl ⟨key _ hn, (Host.Outcome.next.inj h).symm⟩))))))))
  · exact .inr (.inr (.inr (.inr (.inr (.inr (.inr (.inr (.inr ⟨key _ hn, onTarget_next.1 h⟩))))))))
  · simp only [imp_false] at *
    omega

/-! ### HOST's operations -/

/-- What a command does to a state that accepts it. -/
theorem performCommand_eq (c : Params) (i : Instr) (s : State) :
    performCommand c i s = raiseAbort .illegalCommand s ∨ performCommand c i s = raiseAbort .misalignedTarget s ∨
      (∃ x, performCommand c i s = s.setW x) ∨ (∃ x, performCommand c i s = s.setP x) ∨
      (∃ x y, performCommand c i s = (s.setW x).setP y) ∨ (∃ x, performCommand c i s = s.setEccCtl x) ∨
      performCommand c i s = s.setRamCtl armedFlags ∨ performCommand c i s = s.setRamCtl idleFlags ∨
      performCommand c i s = clearInterrupt s ∨
      (∃ dd pp, i = .inject dd pp ∧ aligned8 s.a = true ∧
        performCommand c i s = ((s.setLat { s.lat with ta := s.a, df := dd, pf := pp }).setBusy true).setStep 1#4) := by
  cases i with
  | rd r => exact .inl rfl
  | wr r v => exact .inl rfl
  | cwbuild => exact .inr (.inr (.inl ⟨_, rfl⟩))
  | pargen => exact .inr (.inr (.inr (.inl ⟨_, rfl⟩)))
  | eccgen => exact .inr (.inr (.inr (.inr (.inl ⟨_, _, rfl⟩))))
  | inject dd pp =>
    cases h : aligned8 s.a
    · exact .inr (.inl (by simp [performCommand, injectEffect, h]))
    · exact .inr (.inr (.inr (.inr (.inr (.inr (.inr (.inr (.inr ⟨dd, pp, rfl, rfl, by
        simp [performCommand, injectEffect, h]⟩))))))))
  | setaddr => exact .inr (.inr (.inr (.inr (.inr (.inl ⟨_, rfl⟩)))))
  | setpar => exact .inr (.inr (.inr (.inr (.inr (.inl ⟨_, rfl⟩)))))
  | arm => exact .inr (.inr (.inr (.inr (.inr (.inr (.inl rfl))))))
  | disarm => exact .inr (.inr (.inr (.inr (.inr (.inr (.inr (.inl rfl)))))))
  | clrint => exact .inr (.inr (.inr (.inr (.inr (.inr (.inr (.inr (.inl rfl))))))))

/-- The meaning of a command is its effect under the acceptance test; of a write, the register map's; of a read, a reply. -/
theorem exec_eq (i : Instr) (s : State) :
    exec i s = match i with
      | .rd r => .next (s.reply (busRead s r))
      | .wr r v => .next (hostWrite (busWrite Config.device r v) s)
      | _ => .next (hostWrite (performCommand Config.device i) s) := by
  cases i <;> rfl

/-! ### The scheduler (60_exceptions R230) -/

/-- A step is one turn: the first listed one, the default one, or none. -/
theorem step_turn (s : State) :
    (∃ t ts, s.turns = t :: ts ∧ step s = takeTurn t (s.setTurns ts)) ∨
      (∃ t, s.turns = [] ∧ defaultTurn s = some t ∧ step s = takeTurn t s) ∨
      (s.turns = [] ∧ defaultTurn s = none ∧ step s = .next s) := by
  unfold step nextStep
  cases h : s.turns with
  | cons t ts => exact .inl ⟨t, ts, rfl, rfl⟩
  | nil =>
    cases hd : defaultTurn s with
    | some t => exact .inr (.inl ⟨t, rfl, rfl, by simp⟩)
    | none => exact .inr (.inr ⟨rfl, rfl, by simp⟩)

/-- HOST's turn: its next request executed when it has a step and a request, else nothing. -/
theorem hostTurn_cases (s : State) :
    (hostEnabled s = true ∧ ∃ w ws, s.hostOps = w :: ws ∧ hostTurn s = exec (decodeBus w) (s.setHostOps ws)) ∨
      hostTurn s = .next s := by
  unfold hostTurn
  cases h : hostEnabled s with
  | false => exact .inr rfl
  | true =>
    cases ho : s.hostOps with
    | nil => exact .inr rfl
    | cons w ws => exact .inl ⟨rfl, w, ws, rfl, rfl⟩

end Sys2Proof.Machine
end

