-- ==== Sys2Proof/Laws/PerInstr.lean ====
section
/-! SUPPORT. The per-instruction family TableRow: the encoding of every operation lies in its own row of
spec/opcode_table.json. -/

namespace Sys2Proof.Laws

/-- The row's mask as a bus word: "mask" for RD and WR, "bus_mask" for a command (spec/opcode_table.json). -/
def rowMask : Instr → BusWord
  | .rd _ | .wr _ _ => 0x1000000000#37
  | .inject _ _ => 0x1FFFFFFFF0#37
  | .cwbuild | .pargen | .eccgen | .setaddr | .setpar | .arm | .disarm | .clrint => 0x1FFFFFFFFF#37

/-- The row's match as a bus word: "match" for RD and WR, "bus_match" for a command (spec/opcode_table.json). -/
def rowMatch : Instr → BusWord
  | .rd _ => 0x0000000000#37
  | .wr _ _ => 0x1000000000#37
  | .cwbuild => 0x1A00000010#37
  | .pargen => 0x1A00000020#37
  | .eccgen => 0x1A00000030#37
  | .inject _ _ => 0x1A00000040#37
  | .setaddr => 0x1A00000050#37
  | .setpar => 0x1A00000060#37
  | .arm => 0x1A00000070#37
  | .disarm => 0x1A00000080#37
  | .clrint => 0x1A00000090#37

/-- A mask of the top bit alone sees only the WRITE field. -/
theorem busWord_top (b : Bool) (r : RegIndex) (v : Word32) :
    busWord b r v &&& 0x1000000000#37 = if b then 0x1000000000#37 else 0#37 := by
  have key : ∀ x : BusWord, x &&& 0x1000000000#37 = if x.getLsbD 36 then 0x1000000000#37 else 0#37 := by
    intro x
    have hm : (0x1000000000#37 : BusWord) = BitVec.twoPow 37 36 := by decide
    rw [hm, BitVec.and_twoPow]
  rw [key, busWord_write]

namespace TableRow

/-- The encoding of `i` agrees with its row's match under its row's mask. -/
def Statement (i : Instr) : Prop := encode i &&& rowMask i = rowMatch i

theorem rd (r : RegIndex) : Statement (.rd r) := busWord_top false r 0#32

theorem wr (r : RegIndex) (v : Word32) : Statement (.wr r v) := busWord_top true r v

theorem cwbuild : Statement .cwbuild := by unfold Statement; decide

theorem pargen : Statement .pargen := by unfold Statement; decide

theorem eccgen : Statement .eccgen := by unfold Statement; decide

theorem inject (dd pp : FaultCode) : Statement (.inject dd pp) := by
  unfold Statement
  cases dd <;> cases pp <;> decide

theorem setaddr : Statement .setaddr := by unfold Statement; decide

theorem setpar : Statement .setpar := by unfold Statement; decide

theorem arm : Statement .arm := by unfold Statement; decide

theorem disarm : Statement .disarm := by unfold Statement; decide

theorem clrint : Statement .clrint := by unfold Statement; decide

end TableRow

end Sys2Proof.Laws
end

