-- ==== Sys2Proof/Tests/Slice0.lean ====
section
/-! SUPPORT. The model's own tests: the well-formedness smoke test, decoding of words written out from the spec, vectors of
95_test_vectors (expected values from there), and for each statement with hypotheses a witness that meets them. -/

namespace Sys2Proof.Tests

open Sys2Proof Sys2Proof.Machine

/-! ### Small states -/

/-- Booted, idle, nothing pending. -/
def idle : State := { State.reset with booted := true }

/-- A run in progress at step `n`, at the test address of 95_test_vectors. -/
def running (n : BitVec 4) : State :=
  { idle with busy := true, stepCtr := n, lat := ⟨0x28001000#32, .none, .oneBit, 0, 0, 0, 0, 0⟩ }

/-- Aborted by an illegal command. -/
def aborted : State := { idle with abort := true, cause := .illegalCommand }

/-- A correctable fault pending, delivered to the handler, the block armed (V-X1). -/
def faulted : State :=
  { idle with
    ramCtl := ⟨true, true, true⟩
    fs := ⟨true, 0x11#32, 0x22#32, .srcCorrectable, .interrupt, true⟩ }

/-- In the handler. -/
def handling : State := { idle with inHandler := true }

/-- The fixture matrix `H_TEST` of 95_test_vectors section 2; not the device's. -/
def hTest : Fin 8 → Word128 := fun i =>
  ([⟨0xDF04225844B12CB7, 0x0000000000DDE5BB⟩, ⟨0xEF0844A88952555B, 0x00000000006EEADD⟩,
    ⟨0xF710893112649A6D, 0x0000000000B7736E⟩, ⟨0x7B2111C22388E38E, 0x00000000003BBC77⟩,
    ⟨0xBD421E043C0F03F0, 0x0000000000C3DF87⟩, ⟨0x3E83E007C00FFC00, 0x0000000000FC1FF8⟩,
    ⟨0xC0FC0007FFF00000, 0x0000000000001FFF⟩, ⟨0x00FFFFF800000000, 0x0000000000FFE000⟩] : List Word128).getD i.val ⟨0, 0⟩

/-- The fixture device of 95_test_vectors section 2; not the device's values. -/
def fixture : Params :=
  { bankBase := 0x28000000#32, bankBits := 17, rows := hTest, classify := classifyDefault hTest, bgCheck := false,
    toggleCount := 2, settleDelay := 0 }

/-- The same with the background check (V-I11). -/
def fixtureBg : Params := { fixture with bgCheck := true }

/-- One field of a next state, if the outcome is one. -/
def field {α : Type} (f : State → α) (o : Host.Outcome State Fault Refusal) : Option α :=
  match o with
  | .next t => some (f t)
  | .fault _ => none
  | .refused _ => none

/-! ### Well-formedness smoke test -/

theorem test_wellFormed_refuses_command_as_write : wellFormed (.wr 10#4 0x41#32) = false := by decide

theorem test_wellFormed_admits_illegal_command_as_write : wellFormed (.wr 10#4 0x43#32) = true := by decide

theorem test_wellFormed_admits_write : wellFormed (.wr 4#4 0x41#32) = true := by decide

/-! ### Decoding, words from 30_encoding and 95_test_vectors sections 3.4 and 5 -/

theorem test_decode_rd_status : decodeBus 0x0B00000000#37 = .rd 11#4 := by decide

theorem test_decode_rd_ignores_wdata : decodeBus 0x0BFFFFFFFF#37 = .rd 11#4 := by decide

theorem test_decode_wr_w0 : decodeBus 0x1589ABCDEF#37 = .wr 5#4 0x89ABCDEF#32 := by decide

theorem test_decode_cwbuild : decodeBus 0x1A00000010#37 = .cwbuild := by decide

theorem test_decode_pargen : decodeBus 0x1A00000020#37 = .pargen := by decide

theorem test_decode_eccgen : decodeBus 0x1A00000030#37 = .eccgen := by decide

/-- 0x4A = 0100 10 10: dd = TwoBit, pp = TwoBit. -/
theorem test_decode_inject_two_two : decodeBus 0x1A0000004A#37 = .inject .twoBit .twoBit := by decide

/-- 0x46 = 0100 01 10: dd = OneBit, pp = TwoBit. -/
theorem test_decode_inject_one_two : decodeBus 0x1A00000046#37 = .inject .oneBit .twoBit := by decide

theorem test_decode_setaddr : decodeBus 0x1A00000050#37 = .setaddr := by decide

theorem test_decode_setpar : decodeBus 0x1A00000060#37 = .setpar := by decide

theorem test_decode_arm : decodeBus 0x1A00000070#37 = .arm := by decide

theorem test_decode_disarm : decodeBus 0x1A00000080#37 = .disarm := by decide

theorem test_decode_clrint : decodeBus 0x1A00000090#37 = .clrint := by decide

/-- V-D3 to V-D7: one command of each illegal kind, and why it is illegal. -/
theorem test_decode_illegal_by_name :
    decodeCommand 0x00#32 = .error .reservedOpcode ∧ decodeCommand 0xFF#32 = .error .reservedOpcode ∧
    decodeCommand 0x24#32 = .error .lowNibbleNotZero ∧ decodeCommand 0x4C#32 = .error .reservedFaultCode ∧
    decodeCommand 0x43#32 = .error .reservedFaultCode ∧ decodeCommand 0x110#32 = .error .upperBitsNotZero := by decide

theorem test_table_words :
    decodeTableWord 40 0x0000000000 = some (.rd 0#4) ∧ decodeTableWord 40 0x1000000000 = some (.wr 0#4 0#32) ∧
    decodeTableWord 8 0x10 = some .cwbuild ∧ decodeTableWord 8 0x40 = some (.inject .none .none) ∧
    decodeTableWord 8 0x90 = some .clrint ∧ decodeTableWord 40 0x1A00000070 = some .arm ∧
    decodeTableWord 8 0x43 = none ∧ decodeTableWord 40 0x2000000000 = none := by decide

/-- A command byte placed at reset is the very next step: ARM sets the flags. -/
theorem test_placed_arm_runs :
    field (·.ramCtl) (step (State.reset.withFetchWord 8 0x70)) = some ⟨true, true, true⟩ := by decide

/-- A bus word placed at reset is the very next step: `WR A, 0x28001000`. -/
theorem test_placed_write_runs :
    field (·.a) (step (State.reset.withFetchWord 40 0x1428001000)) = some 0x28001000#32 := by decide

/-! ### Register interface (95_test_vectors 3.3) -/

/-- V-R21. -/
theorem test_rd_status : field (·.replies) (exec (.rd 11#4) (running 9)) = some [0x00000901#32] := by decide

/-- V-R13: `ECC_CTL` with PARITY 0xBE and WORD_ADDR 0x200. -/
theorem test_rd_ecc_ctl :
    field (·.replies) (exec (.rd 0#4) { idle with eccCtl := ⟨0x200#24, 0xBE#8⟩ }) = some [0xBE000200#32] := by decide

/-- V-R3. -/
theorem test_wr_d_hi :
    field (·.d) (exec (.wr 3#4 0xFFFFFFFF#32) { idle with d := 0x5A5A5A5A5A5A5A5A }) = some 0xFFFFFFFF5A5A5A5A#64 := by
  decide

/-- V-R5. -/
theorem test_wr_p : field (·.p) (exec (.wr 9#4 0x12345678#32) idle) = some 0x78#8 := by decide

/-- V-D3: an illegal command aborts; STATUS reads 0x32. -/
theorem test_wr_illegal_command : field statusWord (exec (.wr 10#4 0x00#32) idle) = some 0x00000032#32 := by decide

/-- V-D8: a misaligned target aborts; STATUS reads 0x42. -/
theorem test_inject_misaligned :
    field statusWord (exec (.inject .none .oneBit) { idle with a := 0x28001004 }) = some 0x00000042#32 := by decide

/-- V-I10, acceptance: STATUS reads 0x101. -/
theorem test_inject_accepted :
    field statusWord (exec (.inject .none .oneBit) { idle with a := 0x28001000 }) = some 0x00000101#32 := by decide

/-- V-R20: an aborted block ignores ARM. -/
theorem test_arm_ignored_when_aborted : field (·.ramCtl) (exec .arm aborted) = some ⟨false, false, false⟩ := by decide

/-- V-R16: DISARM leaves ECC_CTL. -/
theorem test_disarm_leaves_ecc_ctl :
    field (fun t => (t.ramCtl, t.eccCtl)) (exec .disarm
      { idle with ramCtl := ⟨true, true, true⟩, eccCtl := ⟨0x200#24, 0xBE#8⟩ }) =
      some (⟨false, false, false⟩, ⟨0x200#24, 0xBE#8⟩) := by decide

/-- V-R13. -/
theorem test_setpar :
    field (·.eccCtl) (exec .setpar { idle with p := 0xBE, eccCtl := ⟨0x200#24, 0#8⟩ }) = some ⟨0x200#24, 0xBE#8⟩ := by
  decide

/-- V-R17. -/
theorem test_clrint : field (·.fs.pending) (exec .clrint faulted) = some false := by decide

/-- R123: CWBUILD copies D into the low limb. -/
theorem test_cwbuild_low :
    field (·.w.low) (exec .cwbuild { idle with d := 0x5A5A5A5A5A5A5A5A }) = some 0x5A5A5A5A5A5A5A5A#64 := rfl

/-! ### Fixture vectors (95_test_vectors 3.1, 3.2, 3.5 to 3.7) -/

/-- V-C3, V-C8, V-C9, V-C11, V-C12, V-C13, V-C14, as command: W.high after CWBUILD. -/
theorem test_cwbuild_fixture :
    ([0x28001000, 0x280FFFF8, 0x28100000, 0x27FFFFF8, 0x27FFFFFF, 0x00000000, 0xFFFFFFFF] : List Addr).map
      (fun a => (cwbuildEffect fixture { idle with a := a }).w.high) =
      [0x200, 0x1FFFF, 0, 0x1FFFF, 0x1FFFF, 0, 0x1FFFF] := by decide

/-- V-P5, V-P7, V-P8, V-P9 (three words), V-P13, V-P14, V-P16, V-P17. -/
theorem test_pargen_fixture :
    ([⟨1, 0⟩, ⟨3, 0⟩, ⟨0x8000000000000000, 0⟩, ⟨0x0123456789ABCDEF, 0x200⟩, ⟨0xFEDCBA9876543210, 1⟩,
      ⟨0xFFFFFFFFFFFFFFFF, 0x201⟩, ⟨0, 0x800000⟩, ⟨0, 0x1000000⟩, ⟨0xFFFFFFFFFFFFFFFF, 0⟩,
      ⟨0xFFFFFFFFFFFFFFFF, 0xFFFFFFFFFFFFFFFF⟩] : List Word128).map
      (fun w => (pargenEffect fixture { idle with w := w }).p) =
      [0x07, 0x0C, 0x57, 0x34, 0xC1, 0xF5, 0xB5, 0x00, 0xD8, 0x09] := by decide +kernel

/-- V-E7, V-E8, V-E9 at 0x28001000 and V-E10, V-E11, V-E13. -/
theorem test_eccgen_fixture :
    ([(0x5A5A5A5A5A5A5A5A, 0x28001000), (0x5A5A5A5A5A5A5A5B, 0x28001000), (0x5A5A5A5A5A5A5A59, 0x28001000),
      (0x5A5A5A5A5A5A5A5A, 0x28000000), (0x5A5A5A5A5A5A5A5A, 0x28000008), (0x5A5A5A5A5A5A5A5A, 0x27FFFFF8)] :
      List (Word64 × Addr)).map (fun x => (eccgenEffect fixture { idle with d := x.1, a := x.2 }).p) =
      [0xBF, 0xB8, 0xB3, 0xC9, 0x92, 0x8F] := by decide +kernel

/-- V-R11 and V-R12: SETADDR in the fixture bank. -/
theorem test_setaddr_fixture :
    (setaddrEffect fixture { idle with a := 0x28001000 }).eccCtl.wordAddr = 0x000200#24 ∧
    (setaddrEffect fixture { idle with a := 0x27FFFFF8 }).eccCtl.wordAddr = 0x01FFFF#24 := by decide

/-- The state right after INJECT is accepted at the test address. -/
def accepted (dd pp : FaultCode) : State := injectEffect dd pp { idle with a := 0x28001000 }

/-- V-I10, steps 1, 8 and 9: the cell, ECC_CTL and STATUS. -/
theorem test_inject_trace :
    field (fun t => (cellAt t.mem 0x28001000, statusWord t)) (runSeq fixture 1 (accepted .none .oneBit)) =
      some (some ⟨0x5A5A5A5A5A5A5A5A, 0xBF⟩, 0x00000201) ∧
    field (fun t => (cellAt t.mem 0x28001000, eccCtlWord t.eccCtl, statusWord t)) (runSeq fixture 8 (accepted .none .oneBit)) =
      some (some ⟨0x5A5A5A5A5A5A5A5A, 0xBE⟩, 0xBE000200, 0x00000901) := by decide +kernel

/-- V-I2, V-I3, V-I7: what the read back of step 10 captures. -/
theorem test_inject_captures :
    field (fun t => (t.fs.pending, t.fs.errorSource)) (runSeq fixture 10 (accepted .none .oneBit)) =
      some (true, .srcCorrectable) ∧
    field (fun t => (t.fs.pending, t.fs.errorSource)) (runSeq fixture 10 (accepted .none .twoBit)) =
      some (true, .srcUncorrectable) ∧
    field (fun t => (t.fs.pending, t.fs.errorSource)) (runSeq fixture 10 (accepted .twoBit .none)) =
      some (true, .srcUncorrectable) ∧
    field (fun t => t.fs.pending) (runSeq fixture 10 (accepted .none .none)) = some false := by decide +kernel

/-- V-I8: the illegal preset aborts at step 4; STATUS reads 0x412. -/
theorem test_inject_illegal_preset :
    field statusWord (runSeq fixture 10 (accepted .twoBit .oneBit)) = some 0x00000412#32 := by decide +kernel

/-- V-I13: steps 1 to 8 while armed with a stale parity; step 1 is a hit, step 8 stores the new parity. -/
theorem test_inject_while_armed :
    field (fun t => cellAt t.mem 0x28001000) (runSeq fixture 1
      { accepted .none .none with ramCtl := ⟨true, true, true⟩, eccCtl := ⟨0x200#24, 0xBE#8⟩ }) =
      some (some ⟨0x5A5A5A5A5A5A5A5A, 0xBE⟩) ∧
    field (fun t => cellAt t.mem 0x28001000) (runSeq fixture 8
      { accepted .none .none with ramCtl := ⟨true, true, true⟩, eccCtl := ⟨0x200#24, 0xBE#8⟩ }) =
      some (some ⟨0x5A5A5A5A5A5A5A5A, 0xBF⟩) := by decide +kernel

/-- V-M3 and V-M4: an address of another word is no hit, an alias of the monitored word is. -/
theorem test_memWrite_hits_aliases :
    cellAt (memWrite fixture 0x28001008 correctWord
      { idle with ramCtl := ⟨true, true, true⟩, eccCtl := ⟨0x200#24, 0xBE#8⟩ }).mem 0x28001008 =
      some ⟨0x5A5A5A5A5A5A5A5A, 0xE4⟩ ∧
    cellAt (memWrite fixture 0x28101000 correctWord
      { idle with ramCtl := ⟨true, true, true⟩, eccCtl := ⟨0x200#24, 0xBE#8⟩ }).mem 0x28101000 =
      some ⟨0x5A5A5A5A5A5A5A5A, 0xBE⟩ := by decide +kernel

/-- V-M6: with `ECC_EN` clear a read returns the raw data and captures nothing. -/
theorem test_memRead_ungated :
    (memRead fixture 0x28001000 { idle with mem := [(0x28001000, ⟨correctWord, 0xBE⟩)] }).1 = correctWord ∧
    (memRead fixture 0x28001000 { idle with mem := [(0x28001000, ⟨correctWord, 0xBE⟩)] }).2.fs.pending = false := by
  decide +kernel

/-- V-I11: the background check is enabled once the wrong parity is stored, only when BG_CHECK. -/
theorem test_background_check_enabled :
    chkEnabled fixtureBg 0x28001000
      { idle with ramCtl := ⟨true, true, true⟩, mem := [(0x28001000, ⟨correctWord, 0xBE⟩)] } = true ∧
    chkEnabled fixture 0x28001000
      { idle with ramCtl := ⟨true, true, true⟩, mem := [(0x28001000, ⟨correctWord, 0xBE⟩)] } = false := by
  decide +kernel

/-- V-X1 and V-X2: the handler reports once, clears, disarms. -/
theorem test_handler :
    (handlerStepA fixture faulted).out =
      [.report .correctable 0x11 0x22 .srcCorrectable, .toggle, .toggle] ∧
    (handlerStepA fixture faulted).fs.pending = false ∧
    (handlerStepB (handlerStepA fixture faulted)).ramCtl = ⟨false, false, false⟩ := by decide

/-- V-X3, V-X4, V-X5: the kinds of report. -/
theorem test_report_kinds :
    reportKind .srcUncorrectable = .unknown ∧ reportKind .srcNone = .noFault ∧ reportKind (.other 7) = .unknown := by decide

/-- V-X9: after a reset RD of every register gives 0. -/
theorem test_reset_reads_zero :
    (List.range 16).all (fun i => busRead (resetStep faulted) (BitVec.ofNat 4 i) == 0#32) = true := by decide

/-- R74 with `H_TEST`: syndrome 0x07 is data bit 0's column, 0x01 parity bit 0's. -/
theorem test_corrected_data :
    correctedData hTest 0x07 0x5A5A5A5A5A5A5A5B 0 = 0x5A5A5A5A5A5A5A5A ∧
    correctedData hTest 0x01 0x5A5A5A5A5A5A5A5A 0 = 0x5A5A5A5A5A5A5A5A := by decide +kernel

/-- R74: a word-address bit (here 127, always zero) that shares data bit 0's column is no candidate of a correction. -/
theorem test_corrected_data_ignores_address_bits :
    correctedData (fun i => ⟨(hTest i).low, if i.val < 3 then 1#64 <<< 63 else 0⟩) 0x07 0x5A5A5A5A5A5A5A5B 0 =
      0x5A5A5A5A5A5A5A5A := by decide +kernel

/-- R74 with `H_TEST`: a cell that step 6 wrote armed with the stale parity 0xBE has syndrome 0xB3 XOR 0xBE = 0x0D (V-E9),
which is col(2); its corrected pair has bit 2 flipped back, though that is none of the three canonical values. -/
theorem test_corrected_pair_leaves_canonical :
    syndrome fixture 0x28001000 ⟨0x5A5A5A5A5A5A5A59, 0xBE⟩ = 0x0D ∧
    correctedCell fixture 0x28001000 ⟨0x5A5A5A5A5A5A5A59, 0xBE⟩ 0 = ⟨0x5A5A5A5A5A5A5A5D, 0xBE⟩ := by decide +kernel

/-! ### Witnesses: a state and operands that meet each statement's hypotheses -/

theorem idle_inv : Inv idle := by
  refine ⟨by decide, ⟨rfl, rfl⟩, ⟨?_, ?_, ?_, ?_, ?_, ?_⟩, ⟨?_, ?_, ?_, ?_, ?_, ?_⟩⟩ <;> simp [idle, State.reset]

theorem running_inv : Inv (running 1) := by
  refine ⟨by decide, ⟨rfl, rfl⟩, ⟨?_, ?_, ?_, ?_, ?_, ?_⟩, ⟨?_, ?_, ?_, ?_, ?_, ?_⟩⟩ <;>
    simp [running, idle, State.reset, aligned8]

theorem aborted_inv : Inv aborted := by
  refine ⟨by decide, ⟨rfl, rfl⟩, ⟨?_, ?_, ?_, ?_, ?_, ?_⟩, ⟨?_, ?_, ?_, ?_, ?_, ?_⟩⟩ <;>
    simp [aborted, idle, State.reset]

theorem faulted_inv : Inv faulted := by
  refine ⟨by decide, ⟨rfl, rfl⟩, ⟨?_, ?_, ?_, ?_, ?_, ?_⟩, ⟨?_, ?_, ?_, ?_, ?_, ?_⟩⟩ <;>
    simp [faulted, idle, State.reset]

theorem wit_DecodeInvertsEncode : wellFormed (.inject .twoBit .twoBit) = true ∧ wellFormed (.wr 10#4 0xFFFFFFFF#32) = true := by
  decide

theorem wit_IllegalCommandsAbort :
    idle.busy = false ∧ idle.abort = false ∧ commandIllegal 0x100#32 ∧ commandIllegal 0x0F#32 ∧ commandIllegal 0xA0#32 ∧
      commandIllegal 0x91#32 ∧ commandIllegal 0x4C#32 ∧ commandIllegal 0x43#32 ∧ ¬ commandIllegal 0x4A#32 := by
  unfold commandIllegal
  refine ⟨rfl, rfl, ?_, ?_, ?_, ?_, ?_, ?_, ?_⟩ <;> decide

theorem wit_WriteToCmdIssuesTheCommand :
    decodeCommand 0x4A#32 = .ok (.inject .twoBit .twoBit) ∧ idle.busy = false ∧ idle.abort = false ∧
      (running 1).busy = true ∧ aborted.abort = true ∧ handling.inHandler = true := by decide

theorem wit_StepRunsTheRequestedOperation :
    (∃ s : State, s.booted = true ∧ s.inHandler = false ∧ s.hostOps = [0x1A00000070#37] ∧ s.turns = [.host]) ∧
    ∃ s : State, s.booted = true ∧ s.inHandler = false ∧ s.hostOps = [0x1A00000070#37] ∧ s.turns = [] ∧
      defaultTurn s = some .host :=
  ⟨⟨{ idle with hostOps := [0x1A00000070#37], turns := [.host] }, by decide⟩,
    ⟨{ idle with hostOps := [0x1A00000070#37] }, by decide⟩⟩

theorem wit_PlacedWordRunsNext :
    decodeTableWord 8 0x4A = some (.inject .twoBit .twoBit) ∧ decodeTableWord 40 0x1FFFFFFFFF = some (.wr 15#4 0xFFFFFFFF#32) := by
  decide

theorem wit_DisabledAgentsDoNothing :
    handling.inHandler = true ∧ idle.busy = false ∧ aborted.abort = true ∧ idle.stepCtr = 0#4 ∧ idle.fs.pending = false ∧
      idle.fs.action = .interrupt ∧ idle.fs.irqEnabled = false ∧ idle.inHandler = false ∧ idle.ramCtl.eccEn = false ∧
      cellAt idle.mem 0 = none := by decide

theorem wit_StepKeepsInvariant : ∃ s t, Inv s ∧ step s = .next t ∧ cellsCanonical s :=
  ⟨idle, idle, idle_inv, rfl, fun _ _ h => by simp [idle, State.reset] at h⟩

/-- A run's first step is a step of an invariant state too. -/
theorem wit_StepKeepsInvariant_running : ∃ t, Inv (running 1) ∧ step (running 1) = .next t ∧ cellsCanonical (running 1) :=
  ⟨_, running_inv, rfl, fun _ _ h => by simp [running, idle, State.reset] at h⟩

theorem wit_EnableFlagsStayTogether : ∃ t, flagsAgree faulted ∧ step faulted = .next t := ⟨_, ⟨rfl, rfl⟩, rfl⟩

theorem wit_StepKeepsMemoryCanonical :
    ∃ t, Memory.wf ({ running 1 with mem := [(8, ⟨0, 0⟩), (0xFFFFFFF8, ⟨1, 1⟩)] } : State).mem = true ∧
      step { running 1 with mem := [(8, ⟨0, 0⟩), (0xFFFFFFF8, ⟨1, 1⟩)] } = .next t := ⟨_, by decide, rfl⟩

theorem wit_StopsOnlyOnMisalignedTarget :
    step { running 10 with lat := ⟨0x28001004#32, .none, .none, 0, 0, 0, 0, 0⟩ } = .fault (.misalignedCell 0x28001004#32) :=
  rfl

theorem wit_StepAlwaysGoesOn : Inv (running 1) := running_inv

theorem wit_StepCounterChangesOnlySo :
    (∃ t, Inv (running 1) ∧ seqEnabled (running 1) = true ∧ takeTurn .seq (running 1) = .next t) ∧
    ∃ s t, Inv s ∧ s.hostOps = [0x1A00000041#37] ∧ takeTurn .host s = .next t := by
  refine ⟨⟨_, running_inv, by decide, rfl⟩, { idle with hostOps := [0x1A00000041#37] }, _, ?_, rfl, rfl⟩
  exact ⟨by decide, idle_inv.flags, ⟨idle_inv.status.busyStep, idle_inv.status.idleStep, idle_inv.status.abortIdle,
    idle_inv.status.abortCause, idle_inv.status.abortStep, idle_inv.status.unbooted⟩,
    ⟨idle_inv.latches.target, idle_inv.latches.pcor, idle_inv.latches.wrong, idle_inv.latches.preset,
      idle_inv.latches.psel, idle_inv.latches.dsel⟩⟩

theorem wit_AbortedBlockIsFrozen : Inv aborted ∧ aborted.abort = true ∧ takeTurn .seq aborted = .next aborted :=
  ⟨aborted_inv, rfl, rfl⟩

theorem wit_AbortedBlockIsFrozen_set : ∃ s t, s.abort = false ∧ takeTurn .host s = .next t ∧ t.abort = true :=
  ⟨{ idle with hostOps := [0x1A00000043#37] }, _, rfl, rfl, rfl⟩

theorem wit_StepCounterChangesOnlySo_reset :
    ∃ s t, s.fs.pending = true ∧ s.fs.action = .reset ∧ takeTurn .rstFault s = .next t :=
  ⟨{ idle with fs := ⟨true, 0, 0, .srcCorrectable, .reset, false⟩ }, _, rfl, rfl, rfl⟩

theorem wit_OnlyTheHandlerEmits : ∃ t, Turn.hndB ≠ .hndA ∧ takeTurn .hndB handling = .next t := ⟨_, by decide, rfl⟩

theorem wit_BusWriteChangesItsView :
    idle.busy = false ∧ idle.abort = false ∧ (15#4 : RegIndex) ≠ 10#4 ∧ decodeCommand 0x10#32 = .ok .cwbuild ∧
      decodeCommand 0xFFFFFFFF#32 = .error .upperBitsNotZero := by decide

theorem wit_UnmappedAccessesAreHarmless : 12 ≤ (12#4 : RegIndex).toNat ∧ 12 ≤ (15#4 : RegIndex).toNat := by decide

theorem wit_WritesIgnoredWhileBusyOrAborted :
    (∀ r, Instr.arm ≠ .rd r) ∧ (running 1).busy = true ∧ aborted.abort = true := ⟨by simp, rfl, rfl⟩

theorem wit_WordAddressCountsCells : 2 ^ 17 - 1 < 2 ^ fixture.bankBits.val := by decide

/-- The conditions of the command statements (CWBUILD, PARGEN, ECCGEN, the setters, CLRINT): accepted, busy, aborted, armed
already, idle already. -/
theorem wit_commands :
    idle.busy = false ∧ idle.abort = false ∧ (running 1).busy = true ∧ aborted.abort = true ∧
      faulted.ramCtl = ⟨true, true, true⟩ ∧ idle.ramCtl = ⟨false, false, false⟩ := by decide

theorem wit_SingleBitParityIsItsColumn : (0 : Nat) < 64 ∧ (63 : Nat) < 64 ∧ ¬ (64 : Nat) < 64 ∧ (127 : Nat) < 128 := by decide

theorem wit_BitFlipsChangeTheSyndrome : (63 : Nat) < 64 ∧ (7 : Nat) < 8 := by decide

theorem wit_InjectIsAcceptedWhenAligned :
    idle.busy = false ∧ idle.abort = false ∧ (0xFFFFFFF8#32).toNat % 8 = 0 ∧ (0xFFFFFFFF#32).toNat % 8 ≠ 0 := by decide

theorem wit_MemWriteStoresDataAndParity : (0xFFFFFFF8#32 : Addr).toNat % 8 = 0 := by decide

theorem wit_seq_steps (n : BitVec 4) :
    (running n).busy = true ∧ (running n).abort = false ∧ (running n).inHandler = false ∧
      (running n).lat.ta.toNat % 8 = 0 ∧ (running n).stepCtr = n :=
  ⟨rfl, rfl, rfl, (by decide : (0x28001000#32).toNat % 8 = 0), rfl⟩

theorem wit_SeqChecksThePreset :
    flipCount .oneBit + flipCount .oneBit ≤ 2 ∧ 2 < flipCount .oneBit + flipCount .twoBit := by decide

/-- An unwritten cell, an unchecked one, a clean one and a faulty one. -/
theorem wit_MemReadChecksTheCell :
    cellAt idle.mem 0 = none ∧ cellAt [(0x28001000, (⟨correctWord, 0xBE⟩ : MemCell))] 0x28001000 = some ⟨correctWord, 0xBE⟩ ∧
      idle.ramCtl.eccEn = false ∧ faulted.ramCtl.eccEn = true ∧ ecc fixture correctWord 0x28001000 = 0xBF ∧
      ecc fixture correctWord 0x28001000 ≠ 0xBE := by decide +kernel

/-- With `H_TEST` no other column equals that of data bit 63, or of parity bit 7. -/
theorem wit_CorrectionFlipsTheIndicatedBit :
    (∀ l, l < 64 ∨ (128 ≤ l ∧ l < 136) → (extColumn hTest l = extColumn hTest 63 ↔ l = 63)) ∧
      ∀ l, l < 64 ∨ (128 ≤ l ∧ l < 136) → (extColumn hTest l = extColumn hTest 135 ↔ l = 135) := by
  have key : (∀ l, l < 136 → (extColumn hTest l = extColumn hTest 63 ↔ l = 63)) ∧
      ∀ l, l < 136 → (extColumn hTest l = extColumn hTest 135 ↔ l = 135) := by decide +kernel
  exact ⟨fun l hl => key.1 l (by omega), fun l hl => key.2 l (by omega)⟩

theorem wit_CaptureKeepsTheFirstFault : faulted.fs.pending = true ∧ idle.fs.pending = false := by decide

theorem wit_ProtocolLeavesOperandsAlone :
    (∃ t, seqStep fixture (running 1) = .next t) ∧ ∃ t, exec (.inject .none .oneBit) idle = .next t := ⟨⟨_, rfl⟩, ⟨_, rfl⟩⟩

theorem wit_UndisturbedRunEndState :
    flipCount .twoBit + flipCount .none ≤ 2 ∧ idle.busy = false ∧ idle.abort = false ∧ idle.inHandler = false ∧
      idle.ramCtl = ⟨false, false, false⟩ ∧ idle.fs.pending = false ∧ idle.a.toNat % 8 = 0 := by decide

theorem wit_IllegalPresetAbortsAtStepFour :
    2 < flipCount .twoBit + flipCount .twoBit ∧ idle.busy = false ∧ idle.abort = false ∧ idle.inHandler = false ∧
      idle.ramCtl = ⟨false, false, false⟩ ∧ idle.a.toNat % 8 = 0 := by decide

/-- Every live column of `H_TEST` has odd weight, no two are equal, and every column of all is odd or zero (95_test_vectors
section 2). -/
theorem hTest_columns :
    ((List.range 81 ++ (List.range 8).map (· + 128)).all fun j => xorReduce (extColumn hTest j)) = true ∧
    ((List.range 81 ++ (List.range 8).map (· + 128)).map (extColumn hTest)).Nodup ∧
    ∀ j, j < 136 → xorReduce (extColumn hTest j) = true ∨ extColumn hTest j = 0#8 := by decide +kernel

theorem live_mem {j : Nat} (h : livePosition 20 j) : j ∈ List.range 81 ++ (List.range 8).map (· + 128) := by
  rcases h with h | ⟨h1, h2⟩
  · exact List.mem_append_left _ (List.mem_range.2 h)
  · exact List.mem_append_right _ (List.mem_map.2 ⟨j - 128, List.mem_range.2 (by omega), by omega⟩)

theorem hTest_odd {j : Nat} (h : livePosition 20 j) : xorReduce (extColumn hTest j) = true :=
  (List.all_eq_true.1 hTest_columns.1) j (live_mem h)

theorem xorReduce_xor (x y : Byte) : xorReduce (x ^^^ y) = Bool.xor (xorReduce x) (xorReduce y) := by
  have key : ∀ n, xorBelow (x ^^^ y) n = Bool.xor (xorBelow x n) (xorBelow y n) := by
    intro n
    induction n with
    | zero => rfl
    | succ n ih =>
      simp only [xorBelow, ih, BitVec.getLsbD_xor]
      cases xorBelow x n <;> cases xorBelow y n <;> cases x.getLsbD n <;> cases y.getLsbD n <;> rfl
  exact key 8

theorem hTest_distinct {i j : Nat} (hi : livePosition 20 i) (hj : livePosition 20 j) (hij : i ≠ j) :
    extColumn hTest i ≠ extColumn hTest j :=
  fun h => hij (List.inj_on_of_nodup_map hTest_columns.2.1 (live_mem hi) (live_mem hj) h)

/-- No column of `[H_TEST | I8]` at all is the XOR of two live ones: it is of odd weight or zero. -/
theorem hTest_sums {i j l : Nat} (hi : livePosition 20 i) (hj : livePosition 20 j) (hij : i ≠ j) (hl : l < 136) :
    extColumn hTest i ^^^ extColumn hTest j ≠ extColumn hTest l := by
  intro h
  rcases hTest_columns.2.2 l hl with ho | hz
  · have h1 := congrArg xorReduce h
    rw [xorReduce_xor, hTest_odd hi, hTest_odd hj, ho] at h1
    exact absurd h1 (by decide)
  · rw [hz] at h
    exact hTest_distinct hi hj hij (by simpa using h)

/-- `SECDED(H_TEST)` holds with the fixture's bank of `k` = 20. -/
theorem wit_PresetSyndromesClassify :
    3 ≤ 20 ∧ 20 ≤ 27 ∧ Secded hTest 20 ∧ column hTest 0 ≠ 0#8 ∧ livePosition 20 80 ∧ livePosition 20 135 := by
  refine ⟨by decide, by decide, ⟨fun i hi h => ?_, fun i j hi hj hij => hTest_distinct hi hj hij,
    fun i j l hi hj hij hl => hTest_sums hi hj hij hl⟩, by decide +kernel, .inl (by decide), .inr (by decide)⟩
  have := hTest_odd hi
  rw [h] at this
  exact absurd this (by decide)

/-- The fixture device meets the premises under which a correction in an undisturbed run stays canonical. -/
theorem wit_UndisturbedRunEndState_secded :
    Secded fixture.rows (fixture.bankBits.val + 3) ∧
      ∀ syn, syn ≠ 0#8 → fixture.classify syn = classifyDefault fixture.rows syn :=
  ⟨wit_PresetSyndromesClassify.2.2.1, fun _ _ => rfl⟩

theorem wit_BackgroundCheckCaptures :
    cellAt [(0x28001000, (⟨correctWord, 0xBE⟩ : MemCell))] 0x28001000 = some ⟨correctWord, 0xBE⟩ ∧
      idle.ramCtl.autoCorrect = false ∧ fixture.classify 0x03 = .multi := by decide +kernel

theorem wit_HandlerEntryReportsAndClears :
    faulted.fs.pending = true ∧ faulted.fs.action = .interrupt ∧ faulted.fs.irqEnabled = true ∧
      faulted.inHandler = false ∧ faulted.abort = false := by decide

theorem wit_HandlerReturnDisarms : handling.inHandler = true := by decide

theorem wit_ResetClearsTheBlock :
    ({ faulted with fs := { faulted.fs with action := .reset } } : State).fs.pending = true ∧
      ({ faulted with fs := { faulted.fs with action := .reset } } : State).fs.action = .reset := by decide

theorem wit_BootFailureAborts : State.reset.booted = false := by decide

theorem wit_AcceptedRunFinishes :
    Inv (running 1) ∧ (running 1).turns = [] ∧ (running 1).busy = true ∧ (running 1).inHandler = false :=
  ⟨running_inv, rfl, rfl, rfl⟩

theorem wit_PendingFaultIsHandled :
    Inv faulted ∧ faulted.booted = true ∧ faulted.turns = [] ∧ faulted.busy = false ∧ faulted.abort = false ∧
      faulted.inHandler = false ∧ faulted.fs.pending = true ∧ faulted.fs.action = .interrupt ∧
      faulted.fs.irqEnabled = true := ⟨faulted_inv, rfl, rfl, rfl, rfl, rfl, rfl, rfl, rfl⟩

theorem wit_FinishedRunWaits : idle.booted = true ∧ idle.turns = [] ∧ runOver idle = true := by decide

theorem wit_PseudoOperationsHaveTheirEffect :
    idle.booted = true ∧ idle.inHandler = false ∧ idle.busy = false ∧ idle.abort = false ∧ aborted.abort = true := by
  decide

end Sys2Proof.Tests
end

section
/-! SUPPORT. The step counter (10_state R27, R28): what each operation of HOST, each protocol step and each other agent
leaves in `STEP`, and the proof that `STEP` changes only as R28 says. -/

namespace Sys2Proof.Machine

/-! ### What the decoder gives as a write -/

/-- A legal command byte stands for one of the nine commands, never for a bus write (30_encoding R94). -/
theorem decodeCommand_ne_wr {v x : Word32} {r : RegIndex} : decodeCommand v ≠ .ok (.wr r x) := by
  have hplain : ∀ op : BitVec 4, plainCommand op ≠ some (.wr r x) := by
    intro op h
    unfold plainCommand at h
    split at h <;> cases h
  intro h
  unfold decodeCommand at h
  split at h
  · unfold decodeFields at h
    split at h
    · split at h <;> cases h
    · split at h
      · cases h
      · rename_i i hi
        split at h
        · cases h
          exact hplain _ hi
        · cases h
  · cases h

/-- What the decoder leaves as a write to `CMD` carries no legal command (30_encoding R93, R98). -/
theorem decodeCommand_of_decodeBus_wr {w : BusWord} {v : Word32} (h : decodeBus w = .wr cmdIndex v) :
    ∃ e, decodeCommand v = .error e := by
  simp only [decodeBus] at h
  split at h
  · split at h
    · split at h
      · rename_i i hi
        exact absurd (h ▸ hi) decodeCommand_ne_wr
      · rename_i e he
        obtain ⟨-, rfl⟩ := Instr.wr.inj h
        exact ⟨e, he⟩
    · rename_i hr
      exact absurd (Instr.wr.inj h).1 hr
  · cases h

/-! ### `STEP` after the shared operations -/

@[simp] theorem busWriteReg_stepCtr (r : RegIndex) (v : Word32) (s : State) :
    (busWriteReg r v s).stepCtr = s.stepCtr := by
  rcases busWriteReg_cases r v s with ⟨x, h⟩ | ⟨x, h⟩ | ⟨x, h⟩ | ⟨x, h⟩ | h <;> simp [h]

@[simp] theorem clearInterrupt_stepCtr (s : State) : (clearInterrupt s).stepCtr = s.stepCtr := by
  simp [clearInterrupt_eq]

@[simp] theorem handlerStepA_stepCtr (c : Params) (s : State) : (handlerStepA c s).stepCtr = s.stepCtr := by
  simp [handlerStepA_eq]

@[simp] theorem handlerStepB_stepCtr (s : State) : (handlerStepB s).stepCtr = s.stepCtr := by
  simp [handlerStepB_eq]

@[simp] theorem bootStep_stepCtr (s : State) : (bootStep s).stepCtr = s.stepCtr := by
  rcases bootStep_cases s with ⟨-, h⟩ | ⟨-, h⟩ <;> simp [h]

@[simp] theorem resetStep_stepCtr (s : State) : (resetStep s).stepCtr = 0#4 := by
  obtain ⟨l, f, -, h⟩ := resetStep_eq s
  rw [h]
  rfl

@[simp] theorem backgroundCheck_stepCtr (c : Params) (a : Addr) (s : State) :
    (backgroundCheck c a s).stepCtr = s.stepCtr := by
  rcases backgroundCheck_cases c a s with ⟨-, h⟩ | ⟨x, -, h⟩
  · rw [h]
  · obtain ⟨f, m, n, hf, -⟩ := faultFound_cases c a x s
    simp [h, hf]

@[simp] theorem memWrite_abort (c : Params) (a : Addr) (v : Word64) (s : State) :
    (memWrite c a v s).abort = s.abort := by
  simp [memWrite_eq]

@[simp] theorem memRead_abort (c : Params) (a : Addr) (s : State) : (memRead c a s).2.abort = s.abort := by
  obtain ⟨f, m, n, h, -⟩ := memRead_state c a s
  simp [h]

/-! ### HOST's operations -/

/-- A command leaves `STEP`, or is an accepted `INJECT`, which starts a run at step 1 (43_fault_injector R171). -/
theorem performCommand_stepCtr (c : Params) (i : Instr) (s : State) :
    (performCommand c i s).stepCtr = s.stepCtr ∨
      ((performCommand c i s).stepCtr = 1#4 ∧ (performCommand c i s).busy = true ∧ ∃ dd pp, i = .inject dd pp) := by
  rcases performCommand_eq c i s with h | h | ⟨x, h⟩ | ⟨x, h⟩ | ⟨x, y, h⟩ | ⟨x, h⟩ | h | h | h | ⟨dd, pp, hi, -, h⟩
  case inr.inr.inr.inr.inr.inr.inr.inr.inr => exact .inr ⟨by simp [h], by simp [h], dd, pp, hi⟩
  all_goals exact .inl (by simp [h])

/-- A write that carries no legal command leaves `STEP`: an abort does (60_exceptions R201), and no register view holds it. -/
theorem busWrite_stepCtr {r : RegIndex} {v : Word32} (c : Params) (s : State)
    (hv : r = cmdIndex → ∃ e, decodeCommand v = .error e) : (busWrite c r v s).stepCtr = s.stepCtr := by
  unfold busWrite
  split
  · obtain ⟨e, he⟩ := hv ‹_›
    simp [issueCommand, he]
  · exact busWriteReg_stepCtr r v s

/-- `STEP` from `s` to `t` as an operation `i` of HOST may change it: not at all, or from 0 to 1 by an `INJECT` that starts a
run (10_state R28). -/
def hostKeepsStep (i : Instr) (s t : State) : Prop :=
  t.stepCtr = s.stepCtr ∨
    (s.stepCtr = 0#4 ∧ t.stepCtr = 1#4 ∧ s.busy = false ∧ t.busy = true ∧ ∃ dd pp, i = .inject dd pp)

/-- A command of HOST, ignored or accepted. In a state that accepts it `STEP` is 0. -/
theorem hostWrite_performCommand_keepsStep (c : Params) (i : Instr) {s : State} (hs : StatusOk s) :
    hostKeepsStep i s (hostWrite (performCommand c i) s) := by
  rcases hostWrite_cases (performCommand c i) s with h | ⟨hb, ha, h⟩ <;> rw [h]
  · exact .inl rfl
  · rcases performCommand_stepCtr c i s with hk | ⟨h1, hbusy, hi⟩
    · exact .inl hk
    · exact .inr ⟨hs.idleStep hb ha, h1, hb, hbusy, hi⟩

/-- A write of HOST that carries no legal command, ignored or accepted. -/
theorem hostWrite_busWrite_stepCtr {r : RegIndex} {v : Word32} (c : Params) (s : State)
    (hv : r = cmdIndex → ∃ e, decodeCommand v = .error e) :
    (hostWrite (busWrite c r v) s).stepCtr = s.stepCtr := by
  rcases hostWrite_cases (busWrite c r v) s with h | ⟨-, -, h⟩ <;> rw [h]
  exact busWrite_stepCtr c s hv

/-- Every operation the decoder gives. -/
theorem exec_decodeBus_keepsStep {w : BusWord} {s t : State} (hs : StatusOk s) (h : exec (decodeBus w) s = .next t) :
    hostKeepsStep (decodeBus w) s t := by
  rw [exec_eq] at h
  split at h <;> obtain rfl := Host.Outcome.next.inj h
  · exact .inl (State.reply_stepCtr s _)
  · rename_i r v hw
    exact .inl (hostWrite_busWrite_stepCtr _ s fun hr => decodeCommand_of_decodeBus_wr (hr ▸ hw))
  · exact hostWrite_performCommand_keepsStep _ _ hs

/-- HOST's turn leaves `STEP`, or performs a request that does with it what an operation may. -/
theorem hostTurn_keepsStep {s t : State} (hs : StatusOk s) (h : hostTurn s = .next t) :
    t.stepCtr = s.stepCtr ∨ ∃ w ws, s.hostOps = w :: ws ∧ hostKeepsStep (decodeBus w) s t := by
  rcases hostTurn_cases s with ⟨-, w, ws, hops, he⟩ | he <;> rw [he] at h
  · have hs' : StatusOk (s.setHostOps ws) :=
      ⟨hs.busyStep, hs.idleStep, hs.abortIdle, hs.abortCause, hs.abortStep, hs.unbooted⟩
    exact .inr ⟨w, ws, hops, by simpa [hostKeepsStep] using exec_decodeBus_keepsStep hs' h⟩
  · exact .inl (congrArg State.stepCtr (Host.Outcome.next.inj h).symm)

/-! ### SEQ's steps -/

/-- Step 4 goes on to step 5, or aborts where it stands (43_fault_injector R176). -/
theorem seqSelectParity_stepCtr (s : State) :
    ((seqSelectParity s).abort = true ∧ (seqSelectParity s).stepCtr = s.stepCtr) ∨
      ((seqSelectParity s).abort = s.abort ∧ (seqSelectParity s).stepCtr = 5#4) := by
  unfold seqSelectParity
  split
  · exact .inr ⟨rfl, rfl⟩
  · exact .inl ⟨rfl, rfl⟩

/-- A protocol step aborts and leaves `STEP`, or takes `n` below 10 to `n + 1` and 10 to 0 (10_state R28). -/
theorem seqStep_stepCtr {c : Params} {s t : State} (he : seqEnabled s = true) (h : seqStep c s = .next t) :
    (t.abort = true ∧ t.stepCtr = s.stepCtr) ∨
      (t.abort = s.abort ∧ t.stepCtr.toNat = if s.stepCtr.toNat = 10 then 0 else s.stepCtr.toNat + 1) := by
  rcases seqStep_cases he h with ⟨hn, -, rfl⟩ | ⟨hn, rfl⟩ | ⟨hn, rfl⟩ | ⟨hn, rfl⟩ | ⟨hn, rfl⟩ | ⟨hn, -, rfl⟩ |
    ⟨hn, rfl⟩ | ⟨hn, -, rfl⟩ | ⟨hn, rfl⟩ | ⟨hn, -, rfl⟩
  case inr.inr.inr.inl =>
    exact (seqSelectParity_stepCtr s).imp id fun ⟨ha, h5⟩ => ⟨ha, by simp [h5, hn]⟩
  all_goals
    exact .inr (by simp [hn, seqCorrectParity, seqWrongParities, seqSelectData, seqProgram, seqSettle])

/-- An enabled SEQ is in no aborted state (60_exceptions R230). -/
theorem abort_eq_false_of_seqEnabled {s : State} (h : seqEnabled s = true) : s.abort = false := by
  cases ha : s.abort
  · rfl
  · simp [seqEnabled, ha] at h

/-! ### Every agent's turn -/

/-- Settles O15: one case per agent; HOST's rests on the invariant, by which an accepting state has `STEP` = 0. -/
theorem stepCounterChangesOnlySo : Obligations.StepCounterChangesOnlySo := by
  intro u s t hi h
  cases u with
  | host =>
    rcases hostTurn_keepsStep hi.status h with hk | ⟨w, ws, hops, hk | ⟨h0, h1, hb, hbusy, dd, pp, hw⟩⟩
    · exact .inl hk
    · exact .inl hk
    · exact .inr ⟨h0, h1, hb, hbusy, w, ws, dd, pp, hops, hw⟩
  | seq =>
    simp only [takeTurn] at h ⊢
    split at h
    · rename_i he
      simpa [he, abort_eq_false_of_seqEnabled he] using seqStep_stepCtr he h
    · rename_i he
      simp [he, ← Host.Outcome.next.inj h]
  | rstFault =>
    obtain rfl := Host.Outcome.next.inj h
    simp [apply_ite State.stepCtr, rstFaultEnabled]
  | extReset =>
    obtain rfl := Host.Outcome.next.inj h
    exact resetStep_stepCtr s
  | boot | hndA | hndB | chk | setAction | setIrqEnabled =>
    obtain rfl := Host.Outcome.next.inj h
    simp [apply_ite State.stepCtr]

end Sys2Proof.Machine
end

section
/-! SUPPORT. The write of a cell and the capture of a fault (20_memory R67, R69): the word address as a number, the hit
test of a write in numbers, and the proofs of what a write and a capture leave. -/

namespace Sys2Proof.Machine

/-! ### The word address as a number (40_codeword_builder R121) -/

/-- The mask is `2^k - 1` as a number too: `k` is at most 27. -/
theorem bankMask_toNat (c : Params) : (bankMask c).toNat = 2 ^ (c.bankBits.val + 3) - 1 := by
  have hk : 2 ^ (c.bankBits.val + 3) ≤ 2 ^ 32 := Nat.pow_le_pow_right (by decide) (by omega)
  rw [bankMask, BitVec.toNat_ofNat, Nat.mod_eq_of_lt (by omega)]

/-- Subtract, mask and shift are subtract modulo `2^32`, remainder and quotient. -/
theorem wordAddr_toNat (c : Params) (a : Addr) : (wordAddr c a).toNat = wordAddrNumber c a := by
  simp only [wordAddr, wordAddrNumber, BitVec.toNat_ushiftRight, BitVec.toNat_and, BitVec.toNat_sub, bankMask_toNat,
    Nat.and_two_pow_sub_one_eq_mod, Nat.shiftRight_eq_div_pow, Nat.reducePow, Nat.add_comm a.toNat]

/-- A word address has `k - 3` bits. -/
theorem wordAddrNumber_lt_two_pow_bankBits (c : Params) (a : Addr) : wordAddrNumber c a < 2 ^ c.bankBits.val :=
  Nat.div_lt_of_lt_mul ((Nat.mod_lt _ (Nat.two_pow_pos _)).trans_eq (by rw [Nat.pow_add, Nat.mul_comm]))

/-- A word address fits the 24-bit field `WORD_ADDR`. -/
theorem wordAddrNumber_lt_two_pow_24 (c : Params) (a : Addr) : wordAddrNumber c a < 2 ^ 24 :=
  (wordAddrNumber_lt_two_pow_bankBits c a).trans_le (Nat.pow_le_pow_right (by decide) (by omega))

/-- The field `WORD_ADDR` loses nothing of a word address. -/
theorem wordAddr24_toNat (c : Params) (a : Addr) : (wordAddr24 c a).toNat = wordAddrNumber c a := by
  rw [wordAddr24, BitVec.toNat_setWidth, wordAddr_toNat, Nat.mod_eq_of_lt (wordAddrNumber_lt_two_pow_24 c a)]

/-! ### The write of a cell (20_memory R67) -/

/-- A write hits when injection is armed and the monitored number is that of the word written. -/
theorem injectionHit_iff (c : Params) (s : State) (a : Addr) :
    injectionHit c s a = true ↔ s.ramCtl.injEn = true ∧ wordAddrNumber c a = s.eccCtl.wordAddr.toNat := by
  rw [injectionHit, Bool.and_eq_true, beq_iff_eq, ← BitVec.toNat_inj, wordAddr24_toNat]

/-- A byte outside the eight of an aligned cell lies in another cell (20_memory R61). -/
theorem cellOfByte_ne_of_outside {a b : Nat} (ha : a % 8 = 0) (hb : b < a ∨ a + 8 ≤ b) : b - b % 8 ≠ a := by
  omega

/-- Settles O39: a write is one store of a cell, whose laws give the cell, the other cells and the other bytes. -/
theorem memWriteStoresDataAndParity : Obligations.MemWriteStoresDataAndParity := by
  intro c a v s ha
  rw [memWrite_eq]
  refine ⟨⟨_, rfl⟩, ?_, fun b hb => ?_, fun b hb => ?_⟩ <;> rw [State.setMem_mem]
  · simp only [cellAt_storeCell_same, injectionHit_iff]
  · exact cellAt_storeCell_other s.mem _ hb
  · exact byteAt_storeCell_other s.mem _ (cellOfByte_ne_of_outside ha hb)

/-! ### The capture of a fault (20_memory R69) -/

/-- The source a fault is captured with is correctable exactly for the class Single. -/
theorem sourceOf_eq_ite (k : SyndromeClass) :
    sourceOf k = if k = .single then .srcCorrectable else .srcUncorrectable := by
  cases k <;> rfl

/-- Settles O47: of the two cases of a capture each clause meets one. -/
theorem captureKeepsTheFirstFault : Obligations.CaptureKeepsTheFirstFault := by
  intro c syn s
  rcases capture_cases c syn s with ⟨hp, h⟩ | ⟨hp, h⟩
  · exact ⟨fun _ => h, by simp [hp]⟩
  · refine ⟨by simp [hp], fun _ =>
      ⟨Config.drawWord32 s.draws, Config.drawWord32 (s.draws + 1), s.draws + 2, ?_⟩⟩
    rw [h, sourceOf_eq_ite]
    rfl

end Sys2Proof.Machine
end

section
/-! SUPPORT. Format C and the harmless accesses (30_encoding R98, R99): which command words decode, that they are the
seventeen listed values, what issuing an illegal one does, and that reads and writes of registers that are not there give 0
and change nothing. -/

namespace Sys2Proof.Machine

/-! ### The two bus operations (42_control_register_ops R146, R147) -/

/-- A read replies with the register's value. -/
theorem exec_rd (r : RegIndex) (s : State) : exec (.rd r) s = .next (s.reply (busRead s r)) := rfl

/-- A write is a HOST write of the register map. -/
theorem exec_wr (r : RegIndex) (v : Word32) (s : State) :
    exec (.wr r v) s = .next (hostWrite (busWrite Config.device r v) s) := rfl

/-! ### Which command words decode (30_encoding R98) -/

/-- Only the 2-bit code 3 is reserved. -/
theorem faultOfBits_eq_none_iff (b : BitVec 2) : faultOfBits b = none ↔ b.toNat = 3 := by
  revert b
  decide

/-- The opcodes of no plain command: the reserved ones and INJECT's. -/
theorem plainCommand_eq_none_iff (op : BitVec 4) :
    plainCommand op = none ↔ op.toNat = 0 ∨ op.toNat = 4 ∨ 10 ≤ op.toNat := by
  revert op
  decide

/-- INJECT's operands decode exactly when neither is the reserved code. -/
theorem decodeFields_inject_ok_iff (dd pp : BitVec 2) :
    (∃ i, decodeFields 4#4 dd pp = .ok i) ↔ dd.toNat ≠ 3 ∧ pp.toNat ≠ 3 := by
  rw [Ne, Ne, ← faultOfBits_eq_none_iff, ← faultOfBits_eq_none_iff]
  cases hd : faultOfBits dd <;> cases hp : faultOfBits pp <;> simp [decodeFields, hd, hp]

/-- Under any other opcode a command decodes exactly when the opcode is a plain command's and the low nibble is zero. -/
theorem decodeFields_plain_ok_iff {op : BitVec 4} (dd pp : BitVec 2) (h : op ≠ 4#4) :
    (∃ i, decodeFields op dd pp = .ok i) ↔ plainCommand op ≠ none ∧ dd = 0#2 ∧ pp = 0#2 := by
  cases hc : plainCommand op with
  | none => simp [decodeFields, h, hc]
  | some i => by_cases h0 : dd = 0#2 ∧ pp = 0#2 <;> simp [decodeFields, h, hc, h0]

/-- A command word decodes exactly when its upper bits are zero and its fields decode. -/
theorem decodeCommand_ok_iff (v : Word32) :
    (∃ i, decodeCommand v = .ok i) ↔ v.extractLsb' 8 24 = 0#24 ∧
      ∃ i, decodeFields (v.extractLsb' 4 4) (v.extractLsb' 2 2) (v.extractLsb' 0 2) = .ok i := by
  by_cases h : v.extractLsb' 8 24 = 0#24 <;> simp [decodeCommand, h]

/-- The decoder accepts exactly the words that are none of R98's four cases. -/
theorem decodeCommand_ok_iff_not_illegal (v : Word32) : (∃ i, decodeCommand v = .ok i) ↔ ¬ commandIllegal v := by
  have hop : v.extractLsb' 4 4 = 4#4 ↔ v.toNat / 2 ^ 4 % 2 ^ 4 = 4 := by
    simp only [← BitVec.toNat_inj, BitVec.extractLsb'_toNat, Nat.shiftRight_eq_div_pow, BitVec.toNat_ofNat]
  rw [decodeCommand_ok_iff]
  by_cases h4 : v.extractLsb' 4 4 = 4#4
  · rw [h4, decodeFields_inject_ok_iff]
    rw [hop] at h4
    simp only [← BitVec.toNat_inj, BitVec.extractLsb'_toNat, Nat.shiftRight_eq_div_pow, BitVec.toNat_ofNat,
      commandIllegal]
    omega
  · rw [decodeFields_plain_ok_iff _ _ h4, Ne, plainCommand_eq_none_iff]
    rw [hop] at h4
    simp only [← BitVec.toNat_inj, BitVec.extractLsb'_toNat, Nat.shiftRight_eq_div_pow, BitVec.toNat_ofNat,
      commandIllegal]
    omega

/-! ### The seventeen legal values (30_encoding R98) -/

/-- A command word is illegal exactly when it is not listed: as numbers, the four cases leave just the seventeen values. -/
theorem commandIllegal_iff_not_mem (v : Word32) : commandIllegal v ↔ v ∉ legalCommands := by
  simp only [commandIllegal, legalCommands, List.mem_cons, List.not_mem_nil, or_false, ← BitVec.toNat_inj,
    BitVec.ofNat_eq_ofNat, BitVec.toNat_ofNat]
  omega

/-! ### The abort (30_encoding R93, R98) -/

/-- An illegal command issued raises the abort and does nothing else. -/
theorem issueCommand_of_illegal (c : Params) {v : Word32} (s : State) (h : commandIllegal v) :
    issueCommand c v s = raiseAbort .illegalCommand s := by
  cases hd : decodeCommand v with
  | error e => simp [issueCommand, hd]
  | ok i => exact absurd h ((decodeCommand_ok_iff_not_illegal v).1 ⟨i, hd⟩)

/-- Settles O4: the list by `commandIllegal_iff_not_mem`, the abort by `issueCommand_of_illegal`, the rest by the decoder's
exact domain. -/
theorem illegalCommandsAbort : Obligations.IllegalCommandsAbort := by
  intro v s hb ha
  refine ⟨commandIllegal_iff_not_mem v, fun h => ?_, (decodeCommand_ok_iff_not_illegal v).2⟩
  calc exec (.wr 10#4 v) s
      = .next (hostWrite (busWrite Config.device cmdIndex v) s) := exec_wr cmdIndex v s
    _ = .next (issueCommand Config.device v s) := by rw [hostWrite_accepted hb ha, busWrite, if_pos rfl]
    _ = .next (raiseAbort .illegalCommand s) := by rw [issueCommand_of_illegal _ s h]

/-! ### Unmapped and read-only registers (30_encoding R99) -/

/-- Every operation of HOST answers a next state. -/
theorem exec_next (i : Instr) (s : State) : ∃ t, exec i s = .next t := by
  rw [exec_eq]
  split <;> exact ⟨_, rfl⟩

/-- The unmapped indices are 12 to 15. -/
theorem unmapped_cases {r : RegIndex} (h : 12 ≤ r.toNat) : r = 12#4 ∨ r = 13#4 ∨ r = 14#4 ∨ r = 15#4 := by
  bv_omega

/-- An unmapped register reads as 0. -/
theorem busRead_unmapped (s : State) {r : RegIndex} (h : 12 ≤ r.toNat) : busRead s r = 0#32 := by
  rcases unmapped_cases h with rfl | rfl | rfl | rfl <;> rfl

/-- A write to a read-only or an unmapped register changes nothing; none of these indices is `CMD`. -/
theorem busWrite_readOnly_or_unmapped (c : Params) {r : RegIndex} (v : Word32) (s : State)
    (h : 12 ≤ r.toNat ∨ r = 0#4 ∨ r = 1#4 ∨ r = 11#4) : busWrite c r v s = s := by
  rcases h with h | rfl | rfl | rfl
  · rcases unmapped_cases h with rfl | rfl | rfl | rfl <;> rfl
  all_goals rfl

/-- A HOST write whose effect is nothing changes nothing, accepted or ignored. -/
theorem hostWrite_eq_self {f : State → State} {s : State} (h : f s = s) : hostWrite f s = s := by
  rcases hostWrite_cases f s with hw | ⟨-, -, hw⟩
  · exact hw
  · exact hw.trans h

/-- Settles O21: no arm of `exec` stops, and the register map has nothing at the indices named. -/
theorem unmappedAccessesAreHarmless : Obligations.UnmappedAccessesAreHarmless := by
  refine ⟨fun w s => exec_next (decodeBus w) s, fun r s h => ?_, fun r v s h => ?_⟩
  · rw [exec_rd, busRead_unmapped s h, State.reply]
  · rw [exec_wr, hostWrite_eq_self (busWrite_readOnly_or_unmapped Config.device v s h)]

end Sys2Proof.Machine
end

section
/-! SUPPORT. The Codeword Builder (40_codeword_builder R121 to R123): the bounds of the word address, the codeword with its
high limb as a number, and what CWBUILD does. -/

namespace Sys2Proof.Machine

/-! ### The word address (40_codeword_builder R121) -/

/-- Settles O23: the three operations as arithmetic by `wordAddr_toNat`, then the two bounds; `k - 3` is `bankBits`. -/
theorem wordAddressIsMaskedOffset : Obligations.WordAddressIsMaskedOffset := by
  intro c a
  refine ⟨wordAddr_toNat c a, ?_, wordAddrNumber_lt_two_pow_24 c a⟩
  rw [Nat.add_sub_cancel]
  exact wordAddrNumber_lt_two_pow_bankBits c a

/-! ### The codeword and its command (40_codeword_builder R122, R123) -/

/-- The high limb is the word address as a number: zero-extension keeps its value. -/
theorem codeword_eq (c : Params) (d : Word64) (a : Addr) :
    codeword c d a = ⟨d, BitVec.ofNat 64 (wordAddrNumber c a)⟩ := by
  rw [codeword, ← wordAddr_toNat, BitVec.ofNat_toNat]

/-- The effect of CWBUILD is one assignment, to `W`. -/
theorem cwbuildEffect_eq (c : Params) (s : State) :
    cwbuildEffect c s = { s with w := ⟨s.d, BitVec.ofNat 64 (wordAddrNumber c s.a)⟩ } := by
  rw [cwbuildEffect, codeword_eq, State.setW]

/-- CWBUILD is a HOST write. -/
theorem exec_cwbuild (s : State) : exec .cwbuild s = .next (hostWrite (cwbuildEffect Config.device) s) := rfl

/-- Settles O25: accepted, the HOST write is its effect; busy or aborted, it is ignored. -/
theorem cwbuildWritesW : Obligations.CwbuildWritesW := by
  intro s
  rw [exec_cwbuild]
  refine ⟨fun hb ha => ?_, fun h => ?_⟩
  · rw [hostWrite_accepted hb ha, cwbuildEffect_eq]
  · rw [hostWrite_ignored h]

end Sys2Proof.Machine
end

section
/-! SUPPORT. The Parity Generator (41_parity_generator R131, R132, R136): bits of a packed value, the XOR of bits as the
parity of their count, one lane and PARGEN over the XOR of codewords, and what PARGEN does. -/

namespace Sys2Proof.Machine

/-! ### The bits of PARGEN (41_parity_generator R131) -/

/-- Bit `i` of a packed value is `f i`. -/
theorem getLsbD_packBits (f : Nat → Bool) {n i : Nat} (hi : i < n) : (packBits f n).getLsbD i = f i := by
  induction n with
  | zero => omega
  | succ n ih =>
    rw [packBits, BitVec.getLsbD_cons]
    split
    · rename_i h
      rw [h]
    · exact ih (by omega)

/-- Bit `i` of the parity is the lane of row `i`. -/
theorem getLsbD_parGen (rows : Fin 8 → Word128) (w : Word128) (i : Fin 8) :
    (parGen rows w).getLsbD i.val = parityLane (rows i) w := by
  rw [parGen, getLsbD_packBits _ i.isLt, rowAt, Fin.ofNat_val_eq_self]

/-! ### Counting (41_parity_generator R131) -/

/-- A sum is odd when exactly one of its terms is. -/
theorem decide_add_odd (a b : Nat) :
    decide ((a + b) % 2 = 1) = Bool.xor (decide (a % 2 = 1)) (decide (b % 2 = 1)) := by
  rcases Nat.mod_two_eq_zero_or_one a with ha | ha <;> rcases Nat.mod_two_eq_zero_or_one b with hb | hb <;>
    simp [Nat.add_mod, ha, hb]

/-- The XOR of the low `n` bits is the parity of how many of them are 1. -/
theorem xorBelow_eq_countP_odd {m : Nat} (v : BitVec m) (n : Nat) :
    xorBelow v n = decide ((List.range n).countP v.getLsbD % 2 = 1) := by
  induction n with
  | zero => rfl
  | succ n ih =>
    rw [xorBelow, ih, List.range_succ, List.countP_append, decide_add_odd]
    cases h : v.getLsbD n <;> simp [h]

/-- The common ones of a codeword and a row are those of the low limbs and those of the high ones. -/
theorem commonOnes_eq_add (row w : Word128) :
    commonOnes row w 128 =
      (List.range 64).countP (w.low &&& row.low).getLsbD + (List.range 64).countP (w.high &&& row.high).getLsbD := by
  rw [commonOnes, List.range_add (n := 64) (m := 64), List.countP_append, List.countP_map]
  congr 1 <;> refine List.countP_congr fun j hj => ?_
  · simp [bit128, List.mem_range.1 hj]
  · simp [bit128]

/-- A lane is the parity of the number of common ones. -/
theorem parityLane_eq_commonOnes_odd (row w : Word128) :
    parityLane row w = decide (commonOnes row w 128 % 2 = 1) := by
  rw [commonOnes_eq_add, decide_add_odd, parityLane, xorReduce, xorReduce, xorBelow_eq_countP_odd,
    xorBelow_eq_countP_odd]

/-- Settles O26: bit `i` is the lane of row `i`, and a lane counts the common ones. -/
theorem parityBitCountsCommonOnes : Obligations.ParityBitCountsCommonOnes := by
  intro rows w i
  rw [getLsbD_parGen, parityLane_eq_commonOnes_odd]

/-! ### Linearity (41_parity_generator R136) -/

/-- The XOR of the low bits is linear, one bit at a time. -/
theorem xorBelow_xor {m : Nat} (u v : BitVec m) (n : Nat) :
    xorBelow (u ^^^ v) n = Bool.xor (xorBelow u n) (xorBelow v n) := by
  induction n with
  | zero => rfl
  | succ n ih => simp only [xorBelow, ih, BitVec.getLsbD_xor, Bool.xor_assoc, Bool.xor_left_comm]

/-- A lane is linear in the codeword: `AND` with the row distributes over the XOR in each limb. -/
theorem parityLane_xor128 (row w1 w2 : Word128) :
    parityLane row (xor128 w1 w2) = Bool.xor (parityLane row w1) (parityLane row w2) := by
  have hand (x y r : Word64) : (x ^^^ y) &&& r = (x &&& r) ^^^ (y &&& r) := by
    ext i
    simp only [BitVec.getElem_and, BitVec.getElem_xor, Bool.and_xor_distrib_right]
  simp only [parityLane, xor128, hand, xorReduce, xorBelow_xor, Bool.xor_assoc, Bool.xor_left_comm]

/-- PARGEN is linear in the codeword, for every matrix. -/
theorem parGen_xor128 (rows : Fin 8 → Word128) (w1 w2 : Word128) :
    parGen rows (xor128 w1 w2) = parGen rows w1 ^^^ parGen rows w2 := by
  refine BitVec.eq_of_getLsbD_eq fun i hi => ?_
  have hbit (w : Word128) : (parGen rows w).getLsbD i = parityLane (rows ⟨i, hi⟩) w := getLsbD_parGen rows w ⟨i, hi⟩
  rw [BitVec.getLsbD_xor, hbit, hbit, hbit, parityLane_xor128]

/-- Settles O29: the limbs XORed are `xor128`. -/
theorem parityIsLinear : Obligations.ParityIsLinear :=
  fun rows w1 w2 => parGen_xor128 rows w1 w2

/-! ### The command (41_parity_generator R132) -/

/-- The effect of PARGEN is one assignment, to `P`. -/
theorem pargenEffect_eq (c : Params) (s : State) : pargenEffect c s = { s with p := parGen c.rows s.w } := by
  rw [pargenEffect, State.setP]

/-- PARGEN is a HOST write. -/
theorem exec_pargen (s : State) : exec .pargen s = .next (hostWrite (pargenEffect Config.device) s) := rfl

/-- Settles O27: accepted, the HOST write is its effect; busy or aborted, it is ignored. -/
theorem pargenWritesP : Obligations.PargenWritesP := by
  intro s
  rw [exec_pargen]
  refine ⟨fun hb ha => ?_, fun h => ?_⟩
  · rw [hostWrite_accepted hb ha, pargenEffect_eq]
  · rw [hostWrite_ignored h]

end Sys2Proof.Machine
end

section
/-! SUPPORT. The control-register operations (42_control_register_ops): the shape every command has, what `RD` answers and
`WR` changes at each register index, and the proofs about the two bus operations, the typed setters and `CLRINT`. -/

namespace Sys2Proof.Machine

/-! ### Writes and commands under the acceptance test (42_control_register_ops R148) -/

/-- Settles O22: every operation but a read is a HOST write, which a busy or aborted state ignores. -/
theorem writesIgnoredWhileBusyOrAborted : Obligations.WritesIgnoredWhileBusyOrAborted := by
  intro i s hrd h
  rw [exec_eq]
  split
  · exact absurd rfl (hrd _)
  · rw [hostWrite_ignored h]
  · rw [hostWrite_ignored h]

/-- An operation that is a HOST write answers its effect where it is accepted, and the state itself where it is ignored. -/
theorem exec_accepted_and_ignored {i : Instr} {f : State → State} {s : State} (h : exec i s = .next (hostWrite f s)) :
    (s.busy = false → s.abort = false → exec i s = .next (f s)) ∧
      (s.busy = true ∨ s.abort = true → exec i s = .next s) := by
  rw [h]
  exact ⟨fun hb ha => by rw [hostWrite_accepted hb ha], fun hi => by rw [hostWrite_ignored hi]⟩

/-! ### The typed setters (42_control_register_ops R154, R155) -/

/-- The effect of SETADDR is one assignment, to `WORD_ADDR`: the field keeps the number of the word address. -/
theorem setaddrEffect_eq (c : Params) (s : State) :
    setaddrEffect c s = { s with eccCtl := ⟨BitVec.ofNat 24 (wordAddrNumber c s.a), s.eccCtl.parity⟩ } := by
  rw [← wordAddr24_toNat, BitVec.ofNat_toNat, BitVec.setWidth_eq]
  rfl

/-- SETADDR is a HOST write. -/
theorem exec_setaddr (s : State) : exec .setaddr s = .next (hostWrite (setaddrEffect Config.device) s) := rfl

/-- Settles O32: the two answers of a HOST write, with SETADDR's effect as one assignment. -/
theorem setaddrWritesWordAddr : Obligations.SetaddrWritesWordAddr := by
  intro s
  rw [← setaddrEffect_eq]
  exact exec_accepted_and_ignored (exec_setaddr s)

/-- SETPAR is a HOST write. -/
theorem exec_setpar (s : State) : exec .setpar s = .next (hostWrite setparEffect s) := rfl

/-- Settles O33: the two answers of a HOST write; SETPAR's effect is the one assignment to `PARITY`. -/
theorem setparWritesParity : Obligations.SetparWritesParity :=
  fun s => exec_accepted_and_ignored (exec_setpar s)

/-! ### The enable flags (42_control_register_ops R156, R157) -/

/-- Writing the flags that stand there changes nothing. -/
theorem setRamCtl_eq_self {s : State} {x : RamCtl} (h : s.ramCtl = x) : s.setRamCtl x = s := by
  subst h
  rfl

/-- A HOST write of the three flags: accepted it sets them, and in a state that has them it changes nothing. -/
theorem exec_setRamCtl {i : Instr} {x : RamCtl} {s : State}
    (h : exec i s = .next (hostWrite (fun t => t.setRamCtl x) s)) :
    (s.busy = false → s.abort = false → exec i s = .next (s.setRamCtl x)) ∧
      (s.ramCtl = x ∨ s.busy = true ∨ s.abort = true → exec i s = .next s) := by
  obtain ⟨haccepted, hignored⟩ := exec_accepted_and_ignored h
  refine ⟨haccepted, ?_⟩
  rintro (hx | hi)
  · rw [h, hostWrite_eq_self (setRamCtl_eq_self hx)]
  · exact hignored hi

/-- ARM is a HOST write of the armed flags. -/
theorem exec_arm (s : State) : exec .arm s = .next (hostWrite (fun t => t.setRamCtl armedFlags) s) := rfl

/-- DISARM is a HOST write of the idle flags. -/
theorem exec_disarm (s : State) : exec .disarm s = .next (hostWrite (fun t => t.setRamCtl idleFlags) s) := rfl

/-- Settles O34: the HOST write of the flags `1, 1, 1`. -/
theorem armSetsTheThreeFlags : Obligations.ArmSetsTheThreeFlags :=
  fun s => exec_setRamCtl (exec_arm s)

/-- Settles O35: the HOST write of the flags `0, 0, 0`. -/
theorem disarmClearsTheThreeFlags : Obligations.DisarmClearsTheThreeFlags :=
  fun s => exec_setRamCtl (exec_disarm s)

/-! ### CLRINT (42_control_register_ops R158) -/

/-- CLRINT is a HOST write. -/
theorem exec_clrint (s : State) : exec .clrint s = .next (hostWrite clearInterrupt s) := rfl

/-- Settles O36: the two answers of a HOST write; the record's three fields become the next three draws. -/
theorem clrintClearsPending : Obligations.ClrintClearsPending := by
  intro s
  obtain ⟨haccepted, hignored⟩ := exec_accepted_and_ignored (exec_clrint s)
  refine ⟨fun hb ha => ⟨Config.drawWord32 s.draws, Config.drawWord32 (s.draws + 1), Config.drawSource (s.draws + 2),
    s.draws + 3, ?_⟩, hignored⟩
  rw [haccepted hb ha, clearInterrupt_eq]
  rfl

/-! ### Fields put together (10_state R33, R34, R37) -/

/-- A field put above a value that leaves its place free, as a number. -/
theorem toNat_shiftLeft_or {m n k : Nat} (x : BitVec m) (y : BitVec n) (hx : m + k ≤ n) (hy : y.toNat < 2 ^ k) :
    (x.setWidth n <<< k ||| y).toNat = x.toNat * 2 ^ k + y.toNat := by
  have hlt : x.toNat * 2 ^ k < 2 ^ n := calc
    x.toNat * 2 ^ k < 2 ^ m * 2 ^ k := Nat.mul_lt_mul_of_pos_right x.isLt (Nat.two_pow_pos k)
    _ = 2 ^ (m + k) := (Nat.pow_add 2 m k).symm
    _ ≤ 2 ^ n := Nat.pow_le_pow_right (by decide) hx
  rw [BitVec.toNat_or, BitVec.toNat_shiftLeft, BitVec.toNat_setWidth_of_le (by omega), Nat.shiftLeft_eq,
    Nat.mod_eq_of_lt hlt, ← Nat.shiftLeft_eq, Nat.shiftLeft_add_eq_or_of_lt hy]

/-- `ECC_CTL` reads as its two fields. -/
theorem eccCtlWord_toNat (e : EccCtl) : (eccCtlWord e).toNat = e.parity.toNat * 2 ^ 24 + e.wordAddr.toNat := by
  have hlow : (e.wordAddr.setWidth 32).toNat = e.wordAddr.toNat := BitVec.toNat_setWidth_of_le (by decide)
  rw [eccCtlWord, toNat_shiftLeft_or _ _ (by decide) (hlow ▸ e.wordAddr.isLt), hlow]

/-- `RAM_CTL` reads as its three flags. -/
theorem ramCtlWord_toNat (r : RamCtl) :
    (ramCtlWord r).toNat = r.eccEn.toNat + 2 * r.autoCorrect.toNat + 4 * r.injEn.toNat := by
  obtain ⟨eccEn, autoCorrect, injEn⟩ := r
  revert eccEn autoCorrect injEn
  decide

/-- `STATUS` reads as `BUSY`, `ABORT`, `CAUSE` and `STEP` at their places. -/
theorem statusWord_toNat (s : State) :
    (statusWord s).toNat =
      s.busy.toNat + 2 * s.abort.toNat + 16 * (causeCode s.cause).toNat + 256 * s.stepCtr.toNat := by
  have hbusy : ((BitVec.ofBool s.busy).setWidth 32).toNat = s.busy.toNat := by
    rw [BitVec.toNat_setWidth_of_le (by decide), BitVec.toNat_ofBool]
  have hbusy_lt := Bool.toNat_lt s.busy
  have habort := toNat_shiftLeft_or (k := 1) (BitVec.ofBool s.abort) _ (by decide) (hbusy.trans_lt hbusy_lt)
  rw [hbusy, BitVec.toNat_ofBool] at habort
  have habort_lt := Bool.toNat_lt s.abort
  have hcause := toNat_shiftLeft_or (k := 4) (causeCode s.cause) _ (by decide) (habort.trans_lt (by omega))
  rw [habort] at hcause
  have hcause_lt := (causeCode s.cause).isLt
  rw [statusWord, BitVec.or_assoc, BitVec.or_assoc,
    toNat_shiftLeft_or s.stepCtr _ (by decide) (hcause.trans_lt (by omega)), hcause]
  omega

/-! ### RD (42_control_register_ops R146) -/

/-- The lower view of a 64-bit register, as a number. -/
theorem lowHalf_toNat (x : Word64) : (lowHalf x).toNat = x.toNat % 2 ^ 32 := by
  rw [lowHalf, BitVec.extractLsb'_toNat, Nat.shiftRight_zero]

/-- The upper view of a 64-bit register, as a number. -/
theorem highHalf_toNat (x : Word64) : (highHalf x).toNat = x.toNat / 2 ^ 32 := by
  have hlt : x.toNat / 2 ^ 32 < 2 ^ 32 := Nat.div_lt_of_lt_mul x.isLt
  rw [highHalf, BitVec.extractLsb'_toNat, Nat.shiftRight_eq_div_pow, Nat.mod_eq_of_lt hlt]

/-- Every index reads as the register map's number: one case per row of R146, where both sides reduce to that row. -/
theorem busRead_toNat (s : State) (r : RegIndex) : (busRead s r).toNat = busNumber s r.toNat := by
  unfold busRead busNumber
  generalize r.toNat = index
  match index with
  | 0 => exact eccCtlWord_toNat s.eccCtl
  | 1 => exact ramCtlWord_toNat s.ramCtl
  | 2 => exact lowHalf_toNat s.d
  | 3 => exact highHalf_toNat s.d
  | 4 => rfl
  | 5 => exact lowHalf_toNat s.w.low
  | 6 => exact highHalf_toNat s.w.low
  | 7 => exact lowHalf_toNat s.w.high
  | 8 => exact highHalf_toNat s.w.high
  | 9 => exact BitVec.toNat_setWidth_of_le (by decide)
  | 10 => rfl
  | 11 => exact statusWord_toNat s
  | _ + 12 => rfl

/-- Settles O19: a read replies with `busRead`, which is the register map's number. -/
theorem busReadReturnsTheRegister : Obligations.BusReadReturnsTheRegister :=
  fun r s => ⟨busRead s r, exec_rd r s, busRead_toNat s r⟩

/-! ### WR (42_control_register_ops R147) -/

/-- The mask of the lower half keeps the lower half. -/
theorem and_lowMask_toNat (x : Word64) : (x &&& 0x00000000FFFFFFFF#64).toNat = x.toNat % 2 ^ 32 :=
  Nat.and_two_pow_sub_one_eq_mod x.toNat 32

/-- The mask of the upper half keeps the upper half, at its place. -/
theorem and_highMask_eq (x : Word64) : x &&& 0xFFFFFFFF00000000#64 = (highHalf x).setWidth 64 <<< 32 := by
  have hhigh : (highHalf x).setWidth 64 = x >>> 32 := by
    rw [← BitVec.toNat_inj, BitVec.toNat_setWidth_of_le (by decide), highHalf_toNat, BitVec.toNat_ushiftRight,
      Nat.shiftRight_eq_div_pow]
  rw [hhigh, BitVec.shiftLeft_ushiftRight]
  rfl

/-- A write of the lower view, as a number. -/
theorem withLowHalf_eq_lowWritten (x : Word64) (v : Word32) : withLowHalf x v = lowWritten x v := by
  have hv : (v.setWidth 64).toNat = v.toNat := BitVec.toNat_setWidth_of_le (by decide)
  rw [lowWritten, ← highHalf_toNat, ← hv, ← toNat_shiftLeft_or _ _ (by decide) (hv ▸ v.isLt), BitVec.ofNat_toNat,
    BitVec.setWidth_eq, withLowHalf, and_highMask_eq]

/-- A write of the upper view, as a number. -/
theorem withHighHalf_eq_highWritten (x : Word64) (v : Word32) : withHighHalf x v = highWritten x v := by
  have hx := and_lowMask_toNat x
  rw [highWritten, ← hx, ← toNat_shiftLeft_or _ _ (by decide) (hx ▸ Nat.mod_lt _ (by decide)), BitVec.ofNat_toNat,
    BitVec.setWidth_eq, withHighHalf]

/-- A register write changes the view of its index alone: one case per row of R147. -/
theorem busWriteReg_eq (r : RegIndex) (v : Word32) (s : State) :
    busWriteReg r v s = { s with
      d := if r = 2#4 then lowWritten s.d v else if r = 3#4 then highWritten s.d v else s.d
      a := if r = 4#4 then v else s.a
      w := ⟨if r = 5#4 then lowWritten s.w.low v else if r = 6#4 then highWritten s.w.low v else s.w.low,
        if r = 7#4 then lowWritten s.w.high v else if r = 8#4 then highWritten s.w.high v else s.w.high⟩
      p := if r = 9#4 then BitVec.ofNat 8 v.toNat else s.p } := by
  unfold busWriteReg
  simp only [withLowHalf_eq_lowWritten, withHighHalf_eq_highWritten, ← BitVec.toNat_inj, BitVec.toNat_ofNat,
    BitVec.ofNat_toNat]
  generalize r.toNat = n
  split
  case h_9 h2 h3 h4 h5 h6 h7 h8 h9 =>
    rw [if_neg h2, if_neg h3, if_neg h4, if_neg h5, if_neg h6, if_neg h7, if_neg h8, if_neg h9]
  all_goals rfl

/-- What a legal command word decodes to: INJECT with its operands, or the plain command of an opcode (30_encoding R94). -/
theorem decodeCommand_ok_cases {v : Word32} {i : Instr} (h : decodeCommand v = .ok i) :
    (∃ dd pp, i = .inject dd pp) ∨ ∃ op, plainCommand op = some i := by
  unfold decodeCommand at h
  split at h
  · unfold decodeFields at h
    split at h
    · split at h <;> cases h
      exact .inl ⟨_, _, rfl⟩
    · split at h
      · cases h
      · rename_i hop
        split at h <;> cases h
        exact .inr ⟨_, hop⟩
  · cases h

/-- A legal command executed is its effect under the acceptance test: it is neither a read nor a write. -/
theorem exec_of_decodeCommand {v : Word32} {i : Instr} (s : State) (h : decodeCommand v = .ok i) :
    exec i s = .next (hostWrite (performCommand Config.device i) s) := by
  rcases decodeCommand_ok_cases h with ⟨dd, pp, rfl⟩ | ⟨op, hop⟩
  · rfl
  · unfold plainCommand at hop
    split at hop <;> cases hop <;> rfl

/-- An accepted write to `CMD` issues its data. -/
theorem exec_wr_cmd {v : Word32} {s : State} (hb : s.busy = false) (ha : s.abort = false) :
    exec (.wr 10#4 v) s = .next (issueCommand Config.device v s) := by
  rw [exec_wr, hostWrite_accepted hb ha]
  exact congrArg Host.Outcome.next (if_pos rfl)

/-- Settles O20: the register map by `busWriteReg_eq`; at `CMD` the data is issued, which is the command or the abort. -/
theorem busWriteChangesItsView : Obligations.BusWriteChangesItsView := by
  intro r v s hb ha
  refine ⟨fun hr => ?_, fun i hi => ?_, fun e he => ?_⟩
  · have hreg : busWrite Config.device r v s = busWriteReg r v s := if_neg hr
    rw [exec_wr, hostWrite_accepted hb ha, hreg, busWriteReg_eq]
  · rw [exec_wr_cmd hb ha, exec_of_decodeCommand s hi, hostWrite_accepted hb ha, issueCommand, hi]
  · rw [exec_wr_cmd hb ha, issueCommand, he, raiseAbort]

end Sys2Proof.Machine
end

section
/-! SUPPORT. The Fault Injector (43_fault_injector): what `INJECT` does where it is accepted and where it aborts, which
presets are legal, and SEQ's turn at each protocol step. -/

namespace Sys2Proof.Machine

/-! ### The acceptance of INJECT (43_fault_injector R171) -/

/-- INJECT is a HOST write. -/
theorem exec_inject (dd pp : FaultCode) (s : State) :
    exec (.inject dd pp) s = .next (hostWrite (injectEffect dd pp) s) := rfl

/-- At the address of a cell INJECT starts a run. -/
theorem injectEffect_of_aligned (dd pp : FaultCode) {s : State} (h : s.a.toNat % 8 = 0) :
    injectEffect dd pp s = { s with
      lat := { s.lat with ta := s.a, df := dd, pf := pp }
      busy := true
      stepCtr := 1#4 } :=
  if_pos ((aligned8_iff s.a).2 h)

/-- At any other address INJECT aborts. -/
theorem injectEffect_of_misaligned (dd pp : FaultCode) {s : State} (h : s.a.toNat % 8 ≠ 0) :
    injectEffect dd pp s = raiseAbort .misalignedTarget s :=
  if_neg (mt (aligned8_iff s.a).1 h)

/-- Settles O37: the two answers of a HOST write; accepted, the alignment of `A` alone decides between run and abort. -/
theorem injectIsAcceptedWhenAligned : Obligations.InjectIsAcceptedWhenAligned := by
  intro dd pp s
  obtain ⟨haccepted, hignored⟩ := exec_accepted_and_ignored (exec_inject dd pp s)
  refine ⟨fun hb ha h => ?_, fun hb ha h => ?_, hignored⟩
  · rw [haccepted hb ha, injectEffect_of_aligned dd pp h]
  · rw [haccepted hb ha, injectEffect_of_misaligned dd pp h, raiseAbort]

/-! ### Legal presets (43_fault_injector R177) -/

/-- A preset is legal when it flips at most two bits. -/
theorem legalPreset_iff (df pf : FaultCode) : legalPreset df pf = true ↔ flipCount df + flipCount pf ≤ 2 :=
  decide_eq_true_iff

/-- A fault code flips as many bits as its number says. -/
theorem faultToBits_toNat (f : FaultCode) : (faultToBits f).toNat = flipCount f := by
  cases f <;> rfl

/-- Settles O38: the sum by `legalPreset_iff`, the list by the nine pairs. -/
theorem legalPresetsFlipAtMostTwo : Obligations.LegalPresetsFlipAtMostTwo := by
  intro df pf
  refine ⟨?_, ?_⟩
  · rw [legalPreset_iff, faultToBits_toNat, faultToBits_toNat]
  · cases df <;> cases pf <;> decide

/-! ### SEQ's turn (60_exceptions R230) -/

/-- A run in progress that is neither aborted nor held up by the handler takes its protocol step in SEQ's turn. -/
theorem takeTurn_seq {s : State} {n : BitVec 4} (hb : s.busy = true) (ha : s.abort = false) (hh : s.inHandler = false)
    (hn : s.stepCtr = n) (hrange : 1 ≤ n.toNat ∧ n.toNat ≤ 10 := by decide) :
    takeTurn .seq s = seqStep Config.device s :=
  if_pos (by simp [seqEnabled, hb, ha, hh, hn, hrange])

/-! ### The step each value of `STEP` names (10_state R27) -/

theorem seqStep_at_1 {c : Params} {s : State} (h : s.stepCtr = 1#4) : seqStep c s = seqWriteCorrect c s := by
  rw [seqStep, h]; rfl

theorem seqStep_at_2 {c : Params} {s : State} (h : s.stepCtr = 2#4) : seqStep c s = .next (seqCorrectParity c s) := by
  rw [seqStep, h]; rfl

theorem seqStep_at_3 {c : Params} {s : State} (h : s.stepCtr = 3#4) : seqStep c s = .next (seqWrongParities s) := by
  rw [seqStep, h]; rfl

theorem seqStep_at_4 {c : Params} {s : State} (h : s.stepCtr = 4#4) : seqStep c s = .next (seqSelectParity s) := by
  rw [seqStep, h]; rfl

theorem seqStep_at_5 {c : Params} {s : State} (h : s.stepCtr = 5#4) : seqStep c s = .next (seqSelectData s) := by
  rw [seqStep, h]; rfl

theorem seqStep_at_6 {c : Params} {s : State} (h : s.stepCtr = 6#4) : seqStep c s = seqWriteData c s := by
  rw [seqStep, h]; rfl

theorem seqStep_at_7 {c : Params} {s : State} (h : s.stepCtr = 7#4) : seqStep c s = .next (seqProgram c s) := by
  rw [seqStep, h]; rfl

theorem seqStep_at_8 {c : Params} {s : State} (h : s.stepCtr = 8#4) : seqStep c s = seqRewrite c s := by
  rw [seqStep, h]; rfl

theorem seqStep_at_9 {c : Params} {s : State} (h : s.stepCtr = 9#4) : seqStep c s = .next (seqSettle s) := by
  rw [seqStep, h]; rfl

theorem seqStep_at_10 {c : Params} {s : State} (h : s.stepCtr = 10#4) : seqStep c s = seqReadBack c s := by
  rw [seqStep, h]; rfl

/-! ### The steps on the target cell (43_fault_injector R173, R179, R181, R183) -/

/-- A step on an aligned target goes on. -/
theorem onTarget_of_aligned {s : State} (t : State) (h : s.lat.ta.toNat % 8 = 0) : onTarget s t = .next t :=
  if_pos ((aligned8_iff s.lat.ta).2 h)

/-- Settles O40: each of the three steps is one cell write on the target. -/
theorem seqWritesTheTargetCell : Obligations.SeqWritesTheTargetCell := by
  intro s hb ha hh hta
  refine ⟨fun h1 => ?_, fun h6 => ?_, fun h8 => ?_⟩
  · rw [takeTurn_seq hb ha hh h1, seqStep_at_1 h1]
    exact onTarget_of_aligned _ hta
  · rw [takeTurn_seq hb ha hh h6, seqStep_at_6 h6]
    exact onTarget_of_aligned _ hta
  · rw [takeTurn_seq hb ha hh h8, seqStep_at_8 h8]
    exact onTarget_of_aligned _ hta

/-- Settles O44: the step is the cell read on the target, of which only the state is kept. -/
theorem seqReadsBackAndEnds : Obligations.SeqReadsBackAndEnds := by
  intro s hb ha hh hta h10
  rw [takeTurn_seq hb ha hh h10, seqStep_at_10 h10]
  exact onTarget_of_aligned _ hta

/-! ### The parities (43_fault_injector R174, R175) -/

/-- Step 2 computes the parity of the codeword of `CORRECT` with the word address as a number. -/
theorem seqCorrectParity_eq (c : Params) (s : State) :
    seqCorrectParity c s = { s with
      lat := { s.lat with
        pcor := parGen c.rows ⟨correctWord, BitVec.ofNat 64 (wordAddrNumber c s.lat.ta)⟩ }
      stepCtr := 3#4 } := by
  rw [← codeword_eq]
  rfl

/-- A value flipped under a mask differs from the value by the mask. -/
theorem xor_mask_xor_self {n : Nat} (x m : BitVec n) : x ^^^ m ^^^ x = m := by
  rw [BitVec.xor_comm x m, BitVec.xor_assoc, BitVec.xor_self, BitVec.xor_zero]

/-- Settles O41: step 2 by `seqCorrectParity_eq`; step 3 flips under the two masks, which R190 reads back. -/
theorem seqComputesTheParities : Obligations.SeqComputesTheParities := by
  intro s hb ha hh
  refine ⟨fun h2 => ?_, fun h3 => ⟨_, ?_, rfl, xor_mask_xor_self _ _, xor_mask_xor_self _ _⟩⟩
  · rw [takeTurn_seq hb ha hh h2, seqStep_at_2 h2, seqCorrectParity_eq, correctWord]
  · rw [takeTurn_seq hb ha hh h3, seqStep_at_3 h3]
    rfl

/-! ### The check of the preset (43_fault_injector R176) -/

/-- The parity fault chooses among the three parities. -/
theorem selectParity_eq_ite (pf : FaultCode) (pcor p1 p2 : Byte) :
    selectParity pf pcor p1 p2 = if pf = .none then pcor else if pf = .oneBit then p1 else p2 := by
  cases pf <;> rfl

/-- Step 4 selects the parity of a legal preset. -/
theorem seqSelectParity_of_legal {s : State} (h : flipCount s.lat.df + flipCount s.lat.pf ≤ 2) :
    seqSelectParity s = { s with
      lat := { s.lat with psel := selectParity s.lat.pf s.lat.pcor s.lat.p1 s.lat.p2 }
      stepCtr := 5#4 } :=
  if_pos ((legalPreset_iff _ _).2 h)

/-- Step 4 aborts on a preset that flips more than two bits. -/
theorem seqSelectParity_of_illegal {s : State} (h : 2 < flipCount s.lat.df + flipCount s.lat.pf) :
    seqSelectParity s = raiseAbort .invalidPreset s :=
  if_neg (mt (legalPreset_iff _ _).1 h.not_ge)

/-- Settles O42: the two answers of step 4. -/
theorem seqChecksThePreset : Obligations.SeqChecksThePreset := by
  intro s hb ha hh h4
  rw [takeTurn_seq hb ha hh h4, seqStep_at_4 h4]
  refine ⟨fun h => ?_, fun h => ?_⟩
  · rw [seqSelectParity_of_legal h, selectParity_eq_ite]
  · rw [seqSelectParity_of_illegal h, raiseAbort]

/-! ### The data, the programming and the delay (43_fault_injector R178, R180, R182) -/

/-- The data of step 5: `CORRECT` with none, the lowest or the lowest two of its bits flipped. -/
theorem faultedData_eq_ite (df : FaultCode) :
    faultedData df = if df = .none then 0x5A5A5A5A5A5A5A5A#64
      else if df = .oneBit then 0x5A5A5A5A5A5A5A5B#64 else 0x5A5A5A5A5A5A5A59#64 := by
  cases df <;> decide

/-- The field `WORD_ADDR` of an address is the number of its word. -/
theorem wordAddr24_eq_ofNat (c : Params) (a : Addr) : wordAddr24 c a = BitVec.ofNat 24 (wordAddrNumber c a) := by
  rw [← wordAddr24_toNat, BitVec.ofNat_toNat, BitVec.setWidth_eq]

/-- Settles O43: step 5 by `faultedData_eq_ite`, step 7 by `wordAddr24_eq_ofNat`; step 9 is its `STEP` alone. -/
theorem seqSelectsProgramsAndWaits : Obligations.SeqSelectsProgramsAndWaits := by
  intro s hb ha hh
  refine ⟨fun h5 => ?_, fun h7 => ?_, fun h9 => ?_⟩
  · rw [takeTurn_seq hb ha hh h5, seqStep_at_5 h5, ← faultedData_eq_ite]
    rfl
  · rw [takeTurn_seq hb ha hh h7, seqStep_at_7 h7, ← wordAddr24_eq_ofNat]
    rfl
  · rw [takeTurn_seq hb ha hh h9, seqStep_at_9 h9]
    rfl

end Sys2Proof.Machine
end

section
/-! SUPPORT. The Fault Injector and the operand registers (43_fault_injector R172). Putting other values in `D`, `A`, `W`
and `P` commutes with every protocol step, and with `INJECT` where `A` stays; so none of them is read. Putting a state's own
values in changes nothing, so by the same law none of them is written. -/

namespace Sys2Proof.Machine

/-- The state with other values in `D`, `A`, `W` and `P`. -/
def State.setOperands (s : State) (d : Word64) (a : Addr) (w : Word128) (p : Byte) : State :=
  { s with d := d, a := a, w := w, p := p }

/-- An outcome with its next state mapped by `f`; a stop stays as it is. -/
def mapNext (f : State → State) : Host.Outcome State Fault Refusal → Host.Outcome State Fault Refusal
  | .next t => .next (f t)
  | .fault r => .fault r
  | .refused r => .refused r

section
variable (c : Params) (s : State) (d : Word64) (a : Addr) (w : Word128) (p : Byte)

@[simp] theorem State.setOperands_stepCtr : (s.setOperands d a w p).stepCtr = s.stepCtr := rfl
@[simp] theorem State.setOperands_ramCtl : (s.setOperands d a w p).ramCtl = s.ramCtl := rfl
@[simp] theorem State.setOperands_mem : (s.setOperands d a w p).mem = s.mem := rfl

/-- Other operands put in the chosen one of two states. -/
theorem State.setOperands_ite (h : Prop) [Decidable h] (t u : State) :
    (if h then t else u).setOperands d a w p = if h then t.setOperands d a w p else u.setOperands d a w p :=
  apply_ite (State.setOperands · d a w p) h t u

/-- A capture has nothing to do with the operands. -/
theorem capture_setOperands (syn : Byte) :
    capture c syn (s.setOperands d a w p) = (capture c syn s).setOperands d a w p := by
  unfold capture
  rw [State.setOperands_ite]
  rfl

/-- The automatic correction has nothing to do with the operands. -/
theorem autoCorrect_setOperands (b : Addr) (x : MemCell) :
    autoCorrect c b x (s.setOperands d a w p) = (autoCorrect c b x s).setOperands d a w p := by
  unfold autoCorrect
  rw [State.setOperands_ite]
  rfl

/-- A fault found is a capture and a correction. -/
theorem faultFound_setOperands (b : Addr) (x : MemCell) :
    faultFound c b x (s.setOperands d a w p) = (faultFound c b x s).setOperands d a w p := by
  rw [faultFound, capture_setOperands, autoCorrect_setOperands, faultFound]

/-- What a read of a cell leaves has nothing to do with the operands, whichever of its cases it meets. -/
theorem memRead_setOperands (b : Addr) :
    (memRead c b (s.setOperands d a w p)).2 = (memRead c b s).2.setOperands d a w p := by
  unfold memRead
  rw [State.setOperands_mem]
  cases cellAt s.mem b.toNat with
  | none => rfl
  | some x =>
    simp only [faultFound_setOperands, State.setOperands_ramCtl]
    split <;> rfl

/-- A step on the target cell goes on or stops by the latched address alone. -/
theorem onTarget_setOperands (t : State) :
    onTarget (s.setOperands d a w p) (t.setOperands d a w p) =
      mapNext (State.setOperands · d a w p) (onTarget s t) := by
  unfold onTarget
  rw [apply_ite (mapNext _)]
  rfl

/-- The write of a cell has nothing to do with the operands, so neither has a step that is one. -/
theorem seqWrite_setOperands (v : Word64) (n : BitVec 4) :
    onTarget (s.setOperands d a w p) ((memWrite c s.lat.ta v (s.setOperands d a w p)).setStep n) =
      mapNext (State.setOperands · d a w p) (onTarget s ((memWrite c s.lat.ta v s).setStep n)) :=
  onTarget_setOperands s d a w p ((memWrite c s.lat.ta v s).setStep n)

/-- Step 4 looks at the latches alone. -/
theorem seqSelectParity_setOperands :
    seqSelectParity (s.setOperands d a w p) = (seqSelectParity s).setOperands d a w p := by
  unfold seqSelectParity
  rw [State.setOperands_ite]
  rfl

/-- Step 10 is a read on the target cell. -/
theorem seqReadBack_setOperands :
    seqReadBack c (s.setOperands d a w p) = mapNext (State.setOperands · d a w p) (seqReadBack c s) := by
  rw [seqReadBack, seqReadBack, ← onTarget_setOperands]
  exact congrArg (fun t => onTarget (s.setOperands d a w p) ((t.setBusy false).setStep 0#4))
    (memRead_setOperands c s d a w p s.lat.ta)

/-- A protocol step run with other operands gives the same outcome with those operands. -/
theorem seqStep_setOperands :
    seqStep c (s.setOperands d a w p) = mapNext (State.setOperands · d a w p) (seqStep c s) := by
  unfold seqStep
  rw [State.setOperands_stepCtr]
  split
  case h_1 | h_6 | h_8 => exact seqWrite_setOperands c s d a w p _ _
  case h_4 => exact congrArg Host.Outcome.next (seqSelectParity_setOperands s d a w p)
  case h_10 => exact seqReadBack_setOperands c s d a w p
  all_goals rfl

/-- The effect of INJECT has to do with `A` alone of the operands. -/
theorem injectEffect_setOperands (dd pp : FaultCode) :
    injectEffect dd pp (s.setOperands d s.a w p) = (injectEffect dd pp s).setOperands d s.a w p := by
  unfold injectEffect
  rw [State.setOperands_ite]
  rfl

/-- INJECT reads of the operands `A` alone, accepted or ignored. -/
theorem exec_inject_setOperands (dd pp : FaultCode) :
    exec (.inject dd pp) (s.setOperands d s.a w p) =
      mapNext (State.setOperands · d s.a w p) (exec (.inject dd pp) s) := by
  rw [exec_inject, exec_inject, mapNext, hostWrite, hostWrite, State.setOperands_ite, injectEffect_setOperands]
  rfl

end

/-- What is the same with the operands of `s` put in has the operands of `s`. -/
theorem operands_eq_of_setOperands_eq {s t : State} (h : t.setOperands s.d s.a s.w s.p = t) :
    t.d = s.d ∧ t.a = s.a ∧ t.w = s.w ∧ t.p = s.p := by
  rw [← h]
  exact ⟨rfl, rfl, rfl, rfl⟩

/-- Settles O48: both parts by commutation; taken at the state's own operands it gives the frame. -/
theorem protocolLeavesOperandsAlone : Obligations.ProtocolLeavesOperandsAlone := by
  refine ⟨fun c s t h => ?_, fun dd pp s t h => ?_⟩
  · have hother (d a w p) : seqStep c (s.setOperands d a w p) = .next (t.setOperands d a w p) := by
      rw [seqStep_setOperands, h, mapNext]
    have hown : t.setOperands s.d s.a s.w s.p = t := Host.Outcome.next.inj ((hother s.d s.a s.w s.p).symm.trans h)
    obtain ⟨hd, ha, hw, hp⟩ := operands_eq_of_setOperands_eq hown
    exact ⟨hd, ha, hw, hp, hother⟩
  · have hother (d w p) : exec (.inject dd pp) (s.setOperands d s.a w p) = .next (t.setOperands d s.a w p) := by
      rw [exec_inject_setOperands, h, mapNext]
    have hown : t.setOperands s.d s.a s.w s.p = t := Host.Outcome.next.inj ((hother s.d s.w s.p).symm.trans h)
    obtain ⟨hd, ha, hw, hp⟩ := operands_eq_of_setOperands_eq hown
    exact ⟨hd, ha, hw, hp, fun d w p => ha ▸ hother d w p⟩

end Sys2Proof.Machine
end

section
/-! SUPPORT. The handler (60_exceptions R214 to R216): when its two steps are enabled, what report a source gives, and the
settled statements of handler steps A and B. -/

namespace Sys2Proof.Machine

/-- The entry condition of the handler, as propositions (60_exceptions R214). -/
theorem hndAEnabled_iff (s : State) :
    hndAEnabled s = true ↔ s.fs.pending = true ∧ s.fs.action = .interrupt ∧ s.fs.irqEnabled = true ∧
      s.inHandler = false ∧ s.abort = false := by
  simp only [hndAEnabled, Bool.and_eq_true, Bool.not_eq_true', beq_iff_eq, and_assoc]

/-- An enabled turn of handler step A is that step. -/
theorem takeTurn_hndA {s : State} (h : hndAEnabled s = true) :
    takeTurn .hndA s = .next (handlerStepA Config.device s) :=
  congrArg Host.Outcome.next (if_pos h)

/-- An enabled turn of handler step B is that step. -/
theorem takeTurn_hndB {s : State} (h : hndBEnabled s = true) : takeTurn .hndB s = .next (handlerStepB s) :=
  congrArg Host.Outcome.next (if_pos h)

/-- The kind of report as a choice between the two named sources and every other one (60_exceptions R215). -/
theorem reportKind_eq_ite (x : ErrorSource) :
    reportKind x = if x = .srcCorrectable then .correctable else if x = .srcNone then .noFault else .unknown := by
  cases x <;> rfl

/-- Settles O53: the entry condition gives step A its turn; the record's three fields become the next three draws. -/
theorem handlerEntryReportsAndClears : Obligations.HandlerEntryReportsAndClears := by
  intro s hpending haction hirq hhandler habort
  have henabled : hndAEnabled s = true := (hndAEnabled_iff s).2 ⟨hpending, haction, hirq, hhandler, habort⟩
  refine ⟨Config.drawWord32 s.draws, Config.drawWord32 (s.draws + 1), Config.drawSource (s.draws + 2), s.draws + 3, ?_⟩
  rw [takeTurn_hndA henabled, handlerStepA_eq, handlerEvents, reportKind_eq_ite]
  rfl

/-- Settles O54: `IN_HANDLER` alone gives step B its turn, which is the two assignments. -/
theorem handlerReturnDisarms : Obligations.HandlerReturnDisarms := by
  intro s hhandler
  rw [takeTurn_hndB hhandler, handlerStepB_eq]
  rfl

end Sys2Proof.Machine
end

section
/-! SUPPORT. The decoder and the encoder undo each other (30_encoding sections 1 to 4): what a bus word put together
from its fields decodes to, the encoding of a legal command, and the operation that a placed word runs. -/

namespace Sys2Proof.Machine

/-! ### What a put-together bus word decodes to (30_encoding R91, R93) -/

/-- The WRITE field, in the spelling `simp` gives it. -/
@[simp] theorem busWord_getElem_write (b : Bool) (r : RegIndex) (v : Word32) : (busWord b r v)[36] = b :=
  busWord_write b r v

/-- A read word decodes to the read of its register, whatever its `WDATA`. -/
@[simp] theorem decodeBus_busWord_read (r : RegIndex) (v : Word32) : decodeBus (busWord false r v) = .rd r := by
  simp [decodeBus]

/-- A write to `CMD` with a legal command decodes to the command. -/
theorem decodeBus_busWord_command {v : Word32} {i : Instr} (h : decodeCommand v = .ok i) :
    decodeBus (busWord true cmdIndex v) = i := by
  simp [decodeBus, h]

/-- Any other write word decodes to the write. -/
theorem decodeBus_busWord_write {r : RegIndex} {v : Word32} (h : r = cmdIndex → ∃ e, decodeCommand v = .error e) :
    decodeBus (busWord true r v) = .wr r v := by
  by_cases hr : r = cmdIndex
  · obtain ⟨e, he⟩ := h hr
    simp [decodeBus, hr, he]
  · simp [decodeBus, hr]

/-- A carried command byte decodes to the command its data decode to. -/
theorem decodeBus_carryCommand {b : Byte} {i : Instr} (h : decodeCommand (b.setWidth 32) = .ok i) :
    decodeBus (carryCommand b) = i :=
  decodeBus_busWord_command h

/-! ### Decoding an encoding -/

/-- A word that is not a listed command is refused by the decoder of commands. -/
theorem decodeCommand_error_of_not_mem {v : Word32} (h : v ∉ legalCommands) : ∃ e, decodeCommand v = .error e := by
  cases hd : decodeCommand v with
  | error e => exact ⟨e, rfl⟩
  | ok i => exact absurd ((commandIllegal_iff_not_mem v).2 h) ((decodeCommand_ok_iff_not_illegal v).1 ⟨i, hd⟩)

/-- A write is well formed when it does not carry a legal command to `CMD`. -/
theorem wellFormed_wr_iff (r : RegIndex) (v : Word32) :
    wellFormed (.wr r v) = true ↔ (r = cmdIndex → v ∉ legalCommands) := by
  simp [wellFormed, cmdIndex, imp_iff_not_or]

/-- Settles O2: a bus operation by its fields, a command by its byte, an `INJECT` by its nine pairs of operands. -/
theorem decodeInvertsEncode : Obligations.DecodeInvertsEncode := by
  intro i hi
  cases i with
  | rd r => exact decodeBus_busWord_read r 0#32
  | wr r v =>
    exact decodeBus_busWord_write fun hr => decodeCommand_error_of_not_mem ((wellFormed_wr_iff r v).1 hi hr)
  | inject dd pp => cases dd <;> cases pp <;> exact decodeBus_carryCommand (by decide)
  | cwbuild | pargen | eccgen | setaddr | setpar | arm | disarm | clrint =>
    exact decodeBus_carryCommand (by decide)

/-! ### Encoding what was decoded -/

/-- The decoder of commands accepts the listed values alone. -/
theorem mem_legalCommands_of_decodeCommand {v : Word32} {i : Instr} (h : decodeCommand v = .ok i) :
    v ∈ legalCommands := by
  by_contra hv
  obtain ⟨e, he⟩ := decodeCommand_error_of_not_mem hv
  simp [he] at h

/-- Each listed command is encoded as the write that issues it: one row of the opcode table each (30_encoding R94). -/
theorem encode_of_mem_legalCommands :
    ∀ v ∈ legalCommands, (decodeCommand v).toOption.map encode = some (busWord true cmdIndex v) :=
  List.map_inj_left.1 (by decide)

/-- A decoded command is encoded as the write that issues it. -/
theorem encode_of_decodeCommand {v : Word32} {i : Instr} (h : decodeCommand v = .ok i) :
    encode i = busWord true cmdIndex v := by
  have hv := encode_of_mem_legalCommands v (mem_legalCommands_of_decodeCommand h)
  simpa [h, Except.toOption] using hv

/-- A decoded command is well formed: it is no bus write. -/
theorem wellFormed_of_decodeCommand {v : Word32} {i : Instr} (h : decodeCommand v = .ok i) : wellFormed i = true := by
  cases i with
  | wr r x => exact absurd h decodeCommand_ne_wr
  | rd | cwbuild | pargen | eccgen | inject | setaddr | setpar | arm | disarm | clrint => rfl

/-- A bus word is known by its three fields. -/
theorem busWord_ext {x y : BusWord} (hw : x.getLsbD 36 = y.getLsbD 36) (hr : x.extractLsb' 32 4 = y.extractLsb' 32 4)
    (hv : x.extractLsb' 0 32 = y.extractLsb' 0 32) : x = y := by
  rw [← busWord_fields x, ← busWord_fields y, hw, hr, hv]

/-- The mask of log 17 keeps the register index of a word and nothing else. -/
theorem and_regMask_eq (w : BusWord) : w &&& 0x0F00000000#37 = busWord false (w.extractLsb' 32 4) 0#32 := by
  apply busWord_ext
  · simp
  · rw [busWord_reg, BitVec.extractLsb'_and]
    exact BitVec.and_allOnes
  · rw [busWord_data, BitVec.extractLsb'_and]
    exact BitVec.and_zero

/-- Settles O3: the word is put together from its fields; a read loses its `WDATA`, and a write is a command or itself.
-/
theorem encodeInvertsDecode : Obligations.EncodeInvertsDecode := by
  intro w
  have hfields := busWord_fields w
  cases hw : w.getLsbD 36 with
  | false =>
    rw [hw] at hfields
    rw [← hfields, decodeBus_busWord_read, hfields, if_neg (by simp), and_regMask_eq]
    exact ⟨rfl, rfl⟩
  | true =>
    rw [hw] at hfields
    rw [if_pos rfl, ← hfields]
    generalize w.extractLsb' 32 4 = r, w.extractLsb' 0 32 = v
    by_cases hcmd : r = cmdIndex ∧ v ∈ legalCommands
    · obtain ⟨rfl, hv⟩ := hcmd
      obtain ⟨i, hi⟩ := (decodeCommand_ok_iff_not_illegal v).2 fun h => (commandIllegal_iff_not_mem v).1 h hv
      rw [decodeBus_busWord_command hi]
      exact ⟨wellFormed_of_decodeCommand hi, encode_of_decodeCommand hi⟩
    · have hnot : r = cmdIndex → v ∉ legalCommands := fun hr hv => hcmd ⟨hr, hv⟩
      rw [decodeBus_busWord_write fun hr => decodeCommand_error_of_not_mem (hnot hr)]
      exact ⟨(wellFormed_wr_iff r v).2 hnot, rfl⟩

/-- Settles O1: the decoder run on each of the thirteen words. -/
theorem wordsOfTheOpcodeMapDecode : Obligations.WordsOfTheOpcodeMapDecode := by
  unfold Obligations.WordsOfTheOpcodeMapDecode
  decide

/-! ### What a write to `CMD` and a placed word run (30_encoding R93; log 1, 16) -/

/-- A HOST that is in the handler has no step. -/
theorem hostEnabled_eq_false_of_inHandler {s : State} (h : s.inHandler = true) : hostEnabled s = false := by
  simp [hostEnabled, h]

/-- HOST's turn without a step does nothing. -/
theorem hostTurn_of_disabled {s : State} (h : hostEnabled s = false) : hostTurn s = .next s :=
  if_neg (by simp [h])

/-- HOST's turn with a step and a request runs the request. -/
theorem hostTurn_of_request {s : State} {w : BusWord} {ws : List BusWord} (hb : s.booted = true)
    (hh : s.inHandler = false) (hops : s.hostOps = w :: ws) : hostTurn s = exec (decodeBus w) (s.setHostOps ws) := by
  simp [hostTurn, hostEnabled, hb, hh, hops]

/-- Settles O5: an accepted write to `CMD` is the command (the clause of O20), an ignored one nothing (O22). -/
theorem writeToCmdIssuesTheCommand : Obligations.WriteToCmdIssuesTheCommand := by
  intro v i s hi
  refine ⟨fun hb ha => ?_, fun h => ?_, fun h => hostTurn_of_disabled (hostEnabled_eq_false_of_inHandler h)⟩
  · obtain ⟨-, hcommand, -⟩ := busWriteChangesItsView 10#4 v s hb ha
    exact hcommand i hi
  · exact writesIgnoredWhileBusyOrAborted (.wr 10#4 v) s (fun r => by simp) h

/-- The operation the decoder reads from a table word is what its bus word decodes to. -/
theorem decodeBus_busWordOf {nbits w : Nat} {i : Instr} (h : decodeTableWord nbits w = some i) :
    decodeBus (busWordOf nbits w) = i := by
  unfold decodeTableWord at h
  split at h <;> rename_i hn
  · split at h
    · rename_i hw
      rw [busWordOf, if_pos hn]
      refine decodeBus_carryCommand ?_
      rw [BitVec.setWidth_ofNat_of_le_of_lt (by decide) hw]
      cases hd : decodeCommand (BitVec.ofNat 32 w) with
      | error e => simp [hd, Except.toOption] at h
      | ok j => simpa [hd, Except.toOption] using h
    · cases h
  · split at h
    · rw [busWordOf, if_neg hn]
      exact Option.some.inj h
    · cases h

/-- A step with a turn listed is that turn. -/
theorem step_of_turns {s : State} {u : Turn} {us : List Turn} (h : s.turns = u :: us) :
    step s = takeTurn u (s.setTurns us) := by
  rw [step, nextStep, h]

/-- A step with no turn listed is the default one. -/
theorem step_of_defaultTurn {s : State} {u : Turn} (h : s.turns = []) (hd : defaultTurn s = some u) :
    step s = takeTurn u s := by
  simp only [step, nextStep, h, hd]

/-- Settles O6: the turn is HOST's, and HOST has a step and a request. -/
theorem stepRunsTheRequestedOperation : Obligations.StepRunsTheRequestedOperation := by
  intro s w ws hb hh hops
  refine ⟨fun ts hts => ?_, fun hts hd => ?_⟩
  · rw [step_of_turns hts]
    exact hostTurn_of_request hb hh hops
  · rw [step_of_defaultTurn hts hd]
    exact hostTurn_of_request hb hh hops

/-- Settles O7: placed, the word is HOST's first request and HOST has the first turn. -/
theorem placedWordRunsNext : Obligations.PlacedWordRunsNext := by
  intro s nbits w i h
  obtain ⟨hlisted, -⟩ :=
    stepRunsTheRequestedOperation (s.withFetchWord nbits w) (busWordOf nbits w) s.hostOps rfl rfl rfl
  rw [hlisted s.turns rfl, decodeBus_busWordOf h]
  rfl

end Sys2Proof.Machine
end

section
/-! SUPPORT. What one turn can do (60_exceptions R230): every effect an operation of HOST can have, every effect an
agent's turn can have, when a turn is no step at all, and when it stops. Later proofs go through the cases given here.
-/

namespace Sys2Proof.Machine

/-! ### What an operation of HOST can do -/

/-- The states an operation of HOST can leave behind `s`: a reply, no change, and the effects of accepted writes. -/
inductive HostEffect (s : State) : State → Prop
  | replied (v : Word32) : HostEffect s (s.reply v)
  | ignored : HostEffect s s
  | operands (d : Word64) (a : Addr) (w : Word128) (p : Byte) : HostEffect s (s.setOperands d a w p)
  | programmed (x : EccCtl) : HostEffect s (s.setEccCtl x)
  | armed : HostEffect s (s.setRamCtl armedFlags)
  | disarmed : HostEffect s (s.setRamCtl idleFlags)
  | cleared : HostEffect s (clearInterrupt s)
  | aborted (x : Cause) (hx : x = .illegalCommand ∨ x = .misalignedTarget) (hb : s.busy = false)
      (ha : s.abort = false) : HostEffect s (raiseAbort x s)
  | started (dd pp : FaultCode) (hta : aligned8 s.a = true) (hb : s.busy = false) (ha : s.abort = false) :
      HostEffect s (((s.setLat { s.lat with ta := s.a, df := dd, pf := pp }).setBusy true).setStep 1#4)

/-- A command performed in a state that accepts it. -/
theorem performCommand_hostEffect (c : Params) (i : Instr) {s : State} (hb : s.busy = false) (ha : s.abort = false) :
    HostEffect s (performCommand c i s) := by
  rcases performCommand_eq c i s with h | h | ⟨x, h⟩ | ⟨x, h⟩ | ⟨x, y, h⟩ | ⟨x, h⟩ | h | h | h | ⟨dd, pp, -, hta, h⟩ <;>
    rw [h]
  · exact .aborted _ (.inl rfl) hb ha
  · exact .aborted _ (.inr rfl) hb ha
  · exact .operands s.d s.a x s.p
  · exact .operands s.d s.a s.w x
  · exact .operands s.d s.a x y
  · exact .programmed x
  · exact .armed
  · exact .disarmed
  · exact .cleared
  · exact .started dd pp hta hb ha

/-- A register write changes operands, or nothing. -/
theorem busWriteReg_hostEffect (r : RegIndex) (v : Word32) (s : State) : HostEffect s (busWriteReg r v s) := by
  rcases busWriteReg_cases r v s with ⟨x, h⟩ | ⟨x, h⟩ | ⟨x, h⟩ | ⟨x, h⟩ | h <;> rw [h]
  · exact .operands x s.a s.w s.p
  · exact .operands s.d x s.w s.p
  · exact .operands s.d s.a x s.p
  · exact .operands s.d s.a s.w x
  · exact .ignored

/-- A bus write in a state that accepts it: a register write, a command, or the abort of an illegal one. -/
theorem busWrite_hostEffect (c : Params) (r : RegIndex) (v : Word32) {s : State} (hb : s.busy = false)
    (ha : s.abort = false) : HostEffect s (busWrite c r v s) := by
  unfold busWrite issueCommand
  split
  · split
    · exact performCommand_hostEffect c _ hb ha
    · exact .aborted _ (.inl rfl) hb ha
  · exact busWriteReg_hostEffect r v s

/-- A HOST write is ignored or has its effect in a state that accepts it. -/
theorem hostWrite_hostEffect {f : State → State} {s : State}
    (h : s.busy = false → s.abort = false → HostEffect s (f s)) : HostEffect s (hostWrite f s) := by
  rcases hostWrite_cases f s with he | ⟨hb, ha, he⟩ <;> rw [he]
  · exact .ignored
  · exact h hb ha

/-- Every operation of HOST. -/
theorem exec_hostEffect {i : Instr} {s t : State} (h : exec i s = .next t) : HostEffect s t := by
  rw [exec_eq] at h
  split at h <;> obtain rfl := Host.Outcome.next.inj h
  · exact .replied _
  · exact hostWrite_hostEffect (busWrite_hostEffect _ _ _)
  · exact hostWrite_hostEffect (performCommand_hostEffect _ _)

/-! ### What a protocol step can do -/

/-- An enabled SEQ is in a run at a protocol step. -/
theorem seqEnabled_iff (s : State) : seqEnabled s = true ↔ s.busy = true ∧ s.abort = false ∧ s.inHandler = false ∧
    1 ≤ s.stepCtr.toNat ∧ s.stepCtr.toNat ≤ 10 := by
  simp [seqEnabled, and_assoc]

/-- Step 4 selects the parity of a legal preset, or aborts (43_fault_injector R176). -/
theorem seqSelectParity_cases (s : State) :
    (legalPreset s.lat.df s.lat.pf = true ∧ seqSelectParity s =
      (s.setLat { s.lat with psel := selectParity s.lat.pf s.lat.pcor s.lat.p1 s.lat.p2 }).setStep 5#4) ∨
      seqSelectParity s = raiseAbort .invalidPreset s := by
  cases h : legalPreset s.lat.df s.lat.pf <;> simp [seqSelectParity, h]

/-- The states a protocol step can leave behind `s`: one per step, and two for the check of the preset in step 4. -/
inductive SeqEffect (c : Params) (s : State) : State → Prop
  | wroteCorrect (hn : s.stepCtr = 1#4) (hta : aligned8 s.lat.ta = true) :
      SeqEffect c s ((memWrite c s.lat.ta correctWord s).setStep 2#4)
  | computedParity (hn : s.stepCtr = 2#4) : SeqEffect c s (seqCorrectParity c s)
  | computedWrong (hn : s.stepCtr = 3#4) : SeqEffect c s (seqWrongParities s)
  | selectedParity (hn : s.stepCtr = 4#4) (hlegal : legalPreset s.lat.df s.lat.pf = true) :
      SeqEffect c s
        ((s.setLat { s.lat with psel := selectParity s.lat.pf s.lat.pcor s.lat.p1 s.lat.p2 }).setStep 5#4)
  | aborted (hn : s.stepCtr = 4#4) : SeqEffect c s (raiseAbort .invalidPreset s)
  | selectedData (hn : s.stepCtr = 5#4) : SeqEffect c s (seqSelectData s)
  | wroteData (hn : s.stepCtr = 6#4) (hta : aligned8 s.lat.ta = true) :
      SeqEffect c s ((memWrite c s.lat.ta s.lat.dsel s).setStep 7#4)
  | programmed (hn : s.stepCtr = 7#4) : SeqEffect c s (seqProgram c s)
  | rewrote (hn : s.stepCtr = 8#4) (hta : aligned8 s.lat.ta = true) :
      SeqEffect c s ((memWrite c s.lat.ta s.lat.dsel s).setStep 9#4)
  | settled (hn : s.stepCtr = 9#4) : SeqEffect c s (seqSettle s)
  | readBack (hn : s.stepCtr = 10#4) : SeqEffect c s (((memRead c s.lat.ta s).2.setBusy false).setStep 0#4)

/-- Every enabled protocol step that goes on. -/
theorem seqStep_seqEffect {c : Params} {s t : State} (he : seqEnabled s = true) (h : seqStep c s = .next t) :
    SeqEffect c s t := by
  rcases seqStep_cases he h with ⟨hn, hta, rfl⟩ | ⟨hn, rfl⟩ | ⟨hn, rfl⟩ | ⟨hn, rfl⟩ | ⟨hn, rfl⟩ | ⟨hn, hta, rfl⟩ |
    ⟨hn, rfl⟩ | ⟨hn, hta, rfl⟩ | ⟨hn, rfl⟩ | ⟨hn, -, rfl⟩
  · exact .wroteCorrect hn hta
  · exact .computedParity hn
  · exact .computedWrong hn
  · rcases seqSelectParity_cases s with ⟨hlegal, h⟩ | h <;> rw [h]
    · exact .selectedParity hn hlegal
    · exact .aborted hn
  · exact .selectedData hn
  · exact .wroteData hn hta
  · exact .programmed hn
  · exact .rewrote hn hta
  · exact .settled hn
  · exact .readBack hn

/-! ### What a turn can do -/

/-- The states a turn of each agent can leave behind `s`. -/
inductive TurnEffect (s : State) : Turn → State → Prop
  | waited (u : Turn) : TurnEffect s u s
  | requested (ws : List BusWord) (t : State) (hb : s.booted = true) (hh : s.inHandler = false)
      (he : HostEffect (s.setHostOps ws) t) : TurnEffect s .host t
  | sequenced (t : State) (he : seqEnabled s = true) (h : SeqEffect Config.device s t) : TurnEffect s .seq t
  | checked (a : Addr) (x : MemCell) (he : chkEnabled Config.device a s = true)
      (hx : cellAt s.mem a.toNat = some x) : TurnEffect s (.chk a) (faultFound Config.device a x s)
  | entered (he : hndAEnabled s = true) : TurnEffect s .hndA (handlerStepA Config.device s)
  | returned (he : s.inHandler = true) : TurnEffect s .hndB (handlerStepB s)
  | reset (u : Turn) (hu : u = .rstFault ∨ u = .extReset) : TurnEffect s u (resetStep s)
  | started (he : s.booted = false) : TurnEffect s .boot (bootStep s)
  | configured (u : Turn) (f : FaultStatus) (he : s.abort = false) (hf : f.pending = s.fs.pending) :
      TurnEffect s u (s.setFs f)

/-- A turn that is one step if enabled and none otherwise. -/
theorem turnEffect_ite {s t : State} {u : Turn} {b : Bool} (h : b = true → TurnEffect s u t) :
    TurnEffect s u (if b then t else s) := by
  cases b
  · exact .waited u
  · exact h rfl

/-- HOST's turn waits, or runs the next request. -/
theorem hostTurn_turnEffect {s t : State} (h : hostTurn s = .next t) : TurnEffect s .host t := by
  rcases hostTurn_cases s with ⟨hen, w, ws, -, he⟩ | he <;> rw [he] at h
  · simp only [hostEnabled, Bool.and_eq_true, Bool.not_eq_true'] at hen
    exact .requested ws t hen.1 hen.2 (exec_hostEffect h)
  · exact Host.Outcome.next.inj h ▸ .waited _

/-- An enabled background check finds a fault in a written cell. -/
theorem backgroundCheck_turnEffect {a : Addr} {s : State} (he : chkEnabled Config.device a s = true) :
    TurnEffect s (.chk a) (backgroundCheck Config.device a s) := by
  rcases backgroundCheck_cases Config.device a s with ⟨-, h⟩ | ⟨x, hx, h⟩ <;> rw [h]
  · exact .waited _
  · exact .checked a x he hx

/-- Every turn that goes on has one of the effects of its agent. -/
theorem takeTurn_turnEffect {u : Turn} {s t : State} (h : takeTurn u s = .next t) : TurnEffect s u t := by
  cases u with
  | host => exact hostTurn_turnEffect h
  | seq =>
    simp only [takeTurn] at h
    split at h
    · exact .sequenced t ‹_› (seqStep_seqEffect ‹_› h)
    · exact Host.Outcome.next.inj h ▸ .waited _
  | chk a => exact Host.Outcome.next.inj h ▸ turnEffect_ite backgroundCheck_turnEffect
  | hndA => exact Host.Outcome.next.inj h ▸ turnEffect_ite .entered
  | hndB => exact Host.Outcome.next.inj h ▸ turnEffect_ite .returned
  | rstFault => exact Host.Outcome.next.inj h ▸ turnEffect_ite fun _ => .reset _ (.inl rfl)
  | extReset => exact Host.Outcome.next.inj h ▸ .reset _ (.inr rfl)
  | boot =>
    exact Host.Outcome.next.inj h ▸ turnEffect_ite fun he => .started (by simpa [bootEnabled] using he)
  | setAction | setIrqEnabled =>
    exact Host.Outcome.next.inj h ▸
      turnEffect_ite fun he => .configured _ _ (by simpa [configEnabled] using he) rfl

/-! ### Turns that are no step (60_exceptions R230; log 2) -/

/-- SEQ's turn when SEQ is not enabled. -/
theorem takeTurn_seq_of_disabled {s : State} (h : seqEnabled s = false) : takeTurn .seq s = .next s :=
  if_neg (by simp [h])

/-- A turn that is one step if enabled and none otherwise, when it is not. -/
theorem next_ite_of_disabled {b : Bool} {t s : State} (h : b = false) :
    (.next (if b then t else s) : Host.Outcome State Fault Refusal) = .next s :=
  congrArg _ (if_neg (by simp [h]))

/-- A cell has syndrome zero when its stored parity is the correct one (20_memory R66). -/
theorem syndrome_eq_zero_iff (c : Params) (a : Addr) (x : MemCell) : syndrome c a x = 0#8 ↔ ecc c x.data a = x.par :=
  BitVec.xor_eq_zero_iff

/-- When the background check of a written cell is enabled (20_memory R75). -/
theorem chkEnabled_iff {c : Params} {a : Addr} {x : MemCell} {s : State} (hx : cellAt s.mem a.toNat = some x) :
    chkEnabled c a s = true ↔ c.bgCheck = true ∧ s.abort = false ∧ s.ramCtl.eccEn = true ∧ s.fs.pending = false ∧
      ecc c x.data a ≠ x.par := by
  simp [chkEnabled, hx, syndrome_eq_zero_iff, and_assoc]

/-- Settles O8: each row's enabling condition is a conjunction, and a conjunct that fails makes it false. -/
theorem disabledAgentsDoNothing : Obligations.DisabledAgentsDoNothing := by
  intro s
  refine ⟨fun h => ⟨hostTurn_of_disabled (hostEnabled_eq_false_of_inHandler h), takeTurn_seq_of_disabled ?_,
    next_ite_of_disabled ?_⟩, fun h => takeTurn_seq_of_disabled ?_, fun h => next_ite_of_disabled ?_,
    fun h => next_ite_of_disabled h, fun h => next_ite_of_disabled ?_, fun a h => next_ite_of_disabled ?_⟩
  · simp [seqEnabled, h]
  · simp [hndAEnabled, h]
  · rcases h with h | h | h <;> simp [seqEnabled, h]
  · rcases h with h | h | h | h <;> simp [hndAEnabled, h]
  · rcases h with h | h <;> simp [rstFaultEnabled, h]
  · rcases h with h | h | h | h | h | ⟨x, hx, h⟩
    case inr.inr.inr.inr.inr => simp [chkEnabled, hx, (syndrome_eq_zero_iff _ _ _).2 h]
    all_goals simp [chkEnabled, h]

/-- Settles O59: HOST has no request left, and every other agent of the default order is not enabled. -/
theorem finishedRunWaits : Obligations.FinishedRunWaits := by
  intro s hb hts hover
  simp only [runOver, Bool.and_eq_true, Bool.not_eq_true'] at hover
  obtain ⟨⟨⟨⟨⟨hops, hbusy⟩, hhandler⟩, -⟩, hhndA⟩, hrst⟩ := hover
  have hd : defaultTurn s = none := by
    simp [defaultTurn, bootEnabled, hndBEnabled, seqEnabled, hb, hrst, hbusy, hhandler, hhndA, hops]
  simp only [step, nextStep, hts, hd]

/-! ### Turns that stop (log 12) -/

/-- The target is misaligned and the protocol step is one of the four that access the target cell. -/
def misalignedAccess (s : State) : Prop :=
  aligned8 s.lat.ta = false ∧ (s.stepCtr = 1#4 ∨ s.stepCtr = 6#4 ∨ s.stepCtr = 8#4 ∨ s.stepCtr = 10#4)

/-- A step on the target cell goes on, or stops because the target is misaligned. -/
theorem onTarget_next_or_fault {s : State} (t : State)
    (hn : s.stepCtr = 1#4 ∨ s.stepCtr = 6#4 ∨ s.stepCtr = 8#4 ∨ s.stepCtr = 10#4) :
    (∃ u, onTarget s t = .next u) ∨ (onTarget s t = .fault (.misalignedCell s.lat.ta) ∧ misalignedAccess s) := by
  cases hta : aligned8 s.lat.ta with
  | true => exact .inl ⟨t, if_pos hta⟩
  | false => exact .inr ⟨if_neg (by simp [hta]), hta, hn⟩

/-- A protocol step goes on, or accesses a misaligned target. -/
theorem seqStep_next_or_fault (c : Params) (s : State) :
    (∃ t, seqStep c s = .next t) ∨ (seqStep c s = .fault (.misalignedCell s.lat.ta) ∧ misalignedAccess s) := by
  unfold seqStep
  split
  case h_1 hn | h_6 hn | h_8 hn | h_10 hn => exact onTarget_next_or_fault _ (by bv_omega)
  all_goals exact .inl ⟨_, rfl⟩

/-- A turn goes on, or is SEQ's in a run whose target is misaligned. -/
theorem takeTurn_next_or_fault (u : Turn) (s : State) :
    (∃ t, takeTurn u s = .next t) ∨
      (takeTurn u s = .fault (.misalignedCell s.lat.ta) ∧ s.busy = true ∧ misalignedAccess s) := by
  cases u with
  | host =>
    rcases hostTurn_cases s with ⟨-, w, ws, -, h⟩ | h
    · obtain ⟨t, ht⟩ := exec_next (decodeBus w) (s.setHostOps ws)
      exact .inl ⟨t, h.trans ht⟩
    · exact .inl ⟨s, h⟩
  | seq =>
    cases he : seqEnabled s with
    | false => exact .inl ⟨s, takeTurn_seq_of_disabled he⟩
    | true =>
      have hseq : takeTurn .seq s = seqStep Config.device s := if_pos he
      obtain ⟨hbusy, -⟩ := (seqEnabled_iff s).1 he
      rw [hseq]
      exact (seqStep_next_or_fault Config.device s).imp id fun ⟨h, hmis⟩ => ⟨h, hbusy, hmis⟩
  | chk | hndA | hndB | rstFault | extReset | boot | setAction | setIrqEnabled => exact .inl ⟨_, rfl⟩

/-- A step goes on, or is SEQ's in a run whose target is misaligned. -/
theorem step_next_or_fault (s : State) :
    (∃ t, step s = .next t) ∨
      (step s = .fault (.misalignedCell s.lat.ta) ∧ s.busy = true ∧ misalignedAccess s) := by
  rcases step_turn s with ⟨u, us, -, h⟩ | ⟨u, -, -, h⟩ | ⟨-, -, h⟩ <;> rw [h]
  · exact takeTurn_next_or_fault u (s.setTurns us)
  · exact takeTurn_next_or_fault u s
  · exact .inl ⟨s, rfl⟩

/-- Settles O14: of the two cases of a step the first is no stop and the second is the one named. -/
theorem stopsOnlyOnMisalignedTarget : Obligations.StopsOnlyOnMisalignedTarget := by
  intro s
  rcases step_next_or_fault s with ⟨t, h⟩ | ⟨h, hbusy, hta, hn⟩
  · exact ⟨by simp [h], by simp [h]⟩
  · refine ⟨by simp [h], fun r hr => ⟨?_, ?_, hbusy, hn⟩⟩
    · rw [h] at hr
      exact (Host.Outcome.fault.inj hr).symm
    · exact fun h0 => by simp [(aligned8_iff _).2 h0] at hta

/-- A step is a turn that some agent takes, in the state with its turn taken off the list, or no change. -/
theorem step_turnEffect {s t : State} (h : step s = .next t) : ∃ u us, TurnEffect (s.setTurns us) u t := by
  rcases step_turn s with ⟨u, us, -, he⟩ | ⟨u, -, -, he⟩ | ⟨-, -, he⟩ <;> rw [he] at h
  · exact ⟨u, us, takeTurn_turnEffect h⟩
  · exact ⟨u, s.turns, takeTurn_turnEffect h⟩
  · exact ⟨.host, s.turns, Host.Outcome.next.inj h ▸ .waited _⟩

end Sys2Proof.Machine
end

section
/-! SUPPORT. What the turns leave of `RAM_CTL`, `OUT` and `MEM` (10_state R35, R46, R47), from the effects a turn can
have: the flags stay together, only the handler emits, the memory stays canonical, and no operation of HOST has to do
with it. -/

namespace Sys2Proof.Machine

/-! ### Fields that the checker, the handler, reset and boot leave -/

section
variable (c : Params) (a : Addr) (x : MemCell) (s : State)

@[simp] theorem faultFound_ramCtl : (faultFound c a x s).ramCtl = s.ramCtl := by
  obtain ⟨f, m, n, h, -⟩ := faultFound_cases c a x s
  simp [h]

@[simp] theorem faultFound_out : (faultFound c a x s).out = s.out := by
  obtain ⟨f, m, n, h, -⟩ := faultFound_cases c a x s
  simp [h]

@[simp] theorem memRead_ramCtl : (memRead c a s).2.ramCtl = s.ramCtl := by
  obtain ⟨f, m, n, h, -⟩ := memRead_state c a s
  simp [h]

@[simp] theorem memRead_out : (memRead c a s).2.out = s.out := by
  obtain ⟨f, m, n, h, -⟩ := memRead_state c a s
  simp [h]

@[simp] theorem bootStep_ramCtl : (bootStep s).ramCtl = s.ramCtl := by
  rcases bootStep_cases s with ⟨-, h⟩ | ⟨-, h⟩ <;> simp [h]

@[simp] theorem bootStep_out : (bootStep s).out = s.out := by
  rcases bootStep_cases s with ⟨-, h⟩ | ⟨-, h⟩ <;> simp [h]

@[simp] theorem bootStep_mem : (bootStep s).mem = s.mem := by
  rcases bootStep_cases s with ⟨-, h⟩ | ⟨-, h⟩ <;> simp [h]

end

/-! ### RAM_CTL (10_state R35) -/

/-- The flags as they were, all set or all clear. -/
def flagsKeptOrTogether (s t : State) : Prop :=
  t.ramCtl = s.ramCtl ∨ t.ramCtl = armedFlags ∨ t.ramCtl = idleFlags

theorem hostEffect_flags {s t : State} (h : HostEffect s t) : flagsKeptOrTogether s t := by
  cases h with
  | armed => exact .inr (.inl rfl)
  | disarmed => exact .inr (.inr rfl)
  | replied | ignored | operands | programmed | cleared | aborted | started => exact .inl rfl

/-- Of the protocol steps only step 7 writes the flags. -/
theorem seqEffect_flags {c : Params} {s t : State} (h : SeqEffect c s t) : flagsKeptOrTogether s t := by
  cases h with
  | programmed => exact .inr (.inl rfl)
  | readBack => exact .inl (memRead_ramCtl c s.lat.ta s)
  | _ => exact .inl rfl

theorem turnEffect_flags {u : Turn} {s t : State} (h : TurnEffect s u t) : flagsKeptOrTogether s t := by
  cases h with
  | waited => exact .inl rfl
  | requested ws _ _ _ he => exact hostEffect_flags (s := s.setHostOps ws) he
  | sequenced _ _ h => exact seqEffect_flags h
  | checked => exact .inl (faultFound_ramCtl _ _ _ s)
  | entered => exact .inl rfl
  | returned => exact .inr (.inr rfl)
  | reset => exact .inr (.inr rfl)
  | started => exact .inl (bootStep_ramCtl s)
  | configured => exact .inl rfl

/-- Flags that are kept or written together stay together. -/
theorem flagsAgree_of_keptOrTogether {s t : State} (hs : flagsAgree s) (h : flagsKeptOrTogether s t) :
    flagsAgree t := by
  unfold flagsAgree at hs ⊢
  rcases h with h | h | h <;> rw [h]
  · exact hs
  · exact ⟨rfl, rfl⟩
  · exact ⟨rfl, rfl⟩

/-- Settles O11: every turn keeps the flags or writes all three. -/
theorem enableFlagsStayTogether : Obligations.EnableFlagsStayTogether := by
  refine ⟨⟨rfl, rfl⟩, fun s t hs h => ?_⟩
  obtain ⟨u, us, he⟩ := step_turnEffect h
  exact flagsAgree_of_keptOrTogether (s := s.setTurns us) hs (turnEffect_flags he)

/-! ### OUT (10_state R46) -/

theorem hostEffect_out {s t : State} (h : HostEffect s t) : t.out = s.out := by
  cases h <;> rfl

theorem seqEffect_out {c : Params} {s t : State} (h : SeqEffect c s t) : t.out = s.out := by
  cases h with
  | readBack => exact memRead_out c s.lat.ta s
  | _ => rfl

/-- Settles O17: of the effects a turn can have only the handler's entry writes `OUT`. -/
theorem onlyTheHandlerEmits : Obligations.OnlyTheHandlerEmits := by
  intro u s t hu h
  cases takeTurn_turnEffect h with
  | waited => rfl
  | requested ws _ _ _ he => exact hostEffect_out (s := s.setHostOps ws) he
  | sequenced _ _ h => exact seqEffect_out h
  | checked => exact faultFound_out _ _ _ s
  | entered => exact absurd rfl hu
  | returned => rfl
  | reset => rfl
  | started => exact bootStep_out s
  | configured => rfl

/-! ### MEM (10_state R47, R51) -/

/-- What a turn can make of the memory of `s`: nothing, the reset's empty memory, the cell of the target written by
step 1, 6 or 8, or one cell rewritten by the automatic correction. -/
inductive MemChange (c : Params) (s : State) : Memory → Prop
  | kept : MemChange c s s.mem
  | cleared : MemChange c s []
  | written (v : Word64) (p : Byte) (hta : aligned8 s.lat.ta = true)
      (hv : v = correctWord ∨ (v = s.lat.dsel ∧ s.busy = true ∧ 6 ≤ s.stepCtr.toNat)) :
      MemChange c s (storeCell s.mem s.lat.ta.toNat ⟨v, p⟩)
  | corrected (a : Addr) (x : MemCell) (free : Word64) (hx : cellAt s.mem a.toNat = some x)
      (ha : s.ramCtl.autoCorrect = true) (hs : c.classify (syndrome c a x) = .single)
      (hfree : canonicalData x.data → canonicalData free) :
      MemChange c s (storeCell s.mem a.toNat (correctedCell c a x free))

theorem hostEffect_mem {s t : State} (h : HostEffect s t) : t.mem = s.mem := by
  cases h <;> rfl

/-- A read keeps the memory or corrects the cell read. -/
theorem memRead_memChange (c : Params) (a : Addr) (s : State) : MemChange c s (memRead c a s).2.mem := by
  obtain ⟨f, m, n, h, -, -, -, rfl | ⟨x, free, hx, ha, hs, hfree, rfl⟩⟩ := memRead_state c a s <;> rw [h]
  · exact .kept
  · exact .corrected a x free hx ha hs hfree

/-- A fault found keeps the memory or corrects the cell it was found in. -/
theorem faultFound_memChange {c : Params} {a : Addr} {x : MemCell} {s : State} (hx : cellAt s.mem a.toNat = some x) :
    MemChange c s (faultFound c a x s).mem := by
  obtain ⟨f, m, n, h, -, -, -, rfl | ⟨ha, hs, free, hfree, rfl⟩⟩ := faultFound_cases c a x s <;> rw [h]
  · exact .kept
  · exact .corrected a x free hx ha hs hfree

/-- Steps 1, 6 and 8 write the target cell, step 10 reads it, the others have nothing to do with the memory. -/
theorem seqEffect_memChange {c : Params} {s t : State} (hb : s.busy = true) (h : SeqEffect c s t) :
    MemChange c s t.mem := by
  cases h with
  | wroteCorrect _ hta => exact .written _ _ hta (.inl rfl)
  | wroteData hn hta => exact .written _ _ hta (.inr ⟨rfl, hb, by simp [hn]⟩)
  | rewrote hn hta => exact .written _ _ hta (.inr ⟨rfl, hb, by simp [hn]⟩)
  | readBack => exact memRead_memChange c s.lat.ta s
  | _ => exact .kept

/-- What a turn makes of the memory. -/
theorem turnEffect_memChange {u : Turn} {s t : State} (h : TurnEffect s u t) : MemChange Config.device s t.mem := by
  cases h with
  | requested ws _ _ _ he =>
    rw [hostEffect_mem he]
    exact .kept
  | sequenced _ he h =>
    obtain ⟨hb, -⟩ := (seqEnabled_iff s).1 he
    exact seqEffect_memChange hb h
  | checked a x _ hx => exact faultFound_memChange hx
  | reset => exact .cleared
  | started =>
    rw [bootStep_mem]
    exact .kept
  | waited | entered | returned | configured => exact .kept

/-- Each of these keeps the canonical form: the target is aligned, and a corrected cell was listed already. -/
theorem memChange_wf {c : Params} {s : State} {m : Memory} (hs : Memory.wf s.mem = true) (h : MemChange c s m) :
    Memory.wf m = true := by
  cases h with
  | kept => exact hs
  | cleared => rfl
  | written v p hta => exact storeCell_wf _ hs ((aligned8_iff _).1 hta) s.lat.ta.isLt
  | corrected a x free hx =>
    obtain ⟨-, hlisted⟩ := (Memory.wf_iff _).1 hs
    obtain ⟨ha, hlt⟩ := hlisted _ (mem_of_cellAt hx)
    exact storeCell_wf _ hs ha hlt

/-- Settles O12: a step is a turn, and each change a turn can make of the memory keeps the canonical form. -/
theorem stepKeepsMemoryCanonical : Obligations.StepKeepsMemoryCanonical := by
  intro s t hs h
  obtain ⟨u, us, he⟩ := step_turnEffect h
  exact memChange_wf (s := s.setTurns us) hs (turnEffect_memChange he)

/-! ### Operations of HOST and MEM (42_control_register_ops R159) -/

/-- Another memory put in the chosen one of two states. -/
theorem State.setMem_ite (m : Memory) (h : Prop) [Decidable h] (t u : State) :
    (if h then t else u).setMem m = if h then t.setMem m else u.setMem m :=
  apply_ite (State.setMem · m) h t u

/-- A HOST write commutes with putting in another memory when its effect does. -/
theorem hostWrite_setMem {f : State → State} {s : State} {m : Memory} (h : f (s.setMem m) = (f s).setMem m) :
    hostWrite f (s.setMem m) = (hostWrite f s).setMem m := by
  unfold hostWrite
  rw [State.setMem_ite, h]
  rfl

/-- No command has to do with the memory. -/
theorem performCommand_setMem (c : Params) (i : Instr) (s : State) (m : Memory) :
    performCommand c i (s.setMem m) = (performCommand c i s).setMem m := by
  cases i with
  | inject dd pp =>
    simp only [performCommand, injectEffect, State.setMem_ite]
    rfl
  | rd | wr | cwbuild | pargen | eccgen | setaddr | setpar | arm | disarm | clrint => rfl

/-- No bus write has to do with the memory. -/
theorem busWrite_setMem (c : Params) (r : RegIndex) (v : Word32) (s : State) (m : Memory) :
    busWrite c r v (s.setMem m) = (busWrite c r v s).setMem m := by
  unfold busWrite issueCommand
  split
  · split
    · exact performCommand_setMem c _ s m
    · rfl
  · unfold busWriteReg
    split <;> rfl

/-- No read of the bus has to do with the memory. -/
theorem busRead_setMem (s : State) (r : RegIndex) (m : Memory) : busRead (s.setMem m) r = busRead s r := rfl

/-- An operation of HOST run with another memory gives the same outcome with that memory. -/
theorem exec_setMem (i : Instr) (s : State) (m : Memory) :
    exec i (s.setMem m) = mapNext (State.setMem · m) (exec i s) := by
  rw [exec_eq, exec_eq]
  split
  · rw [busRead_setMem]
    rfl
  · rw [hostWrite_setMem (busWrite_setMem _ _ _ s m)]
    rfl
  · rw [hostWrite_setMem (performCommand_setMem _ _ s m)]
    rfl

/-- Settles O18: the frame from the effects an operation can have, the independence by commutation. -/
theorem hostNeverTouchesCells : Obligations.HostNeverTouchesCells := by
  intro i s m
  obtain ⟨t, ht⟩ := exec_next i s
  refine ⟨t, ht, hostEffect_mem (exec_hostEffect ht), ?_⟩
  have hother := exec_setMem i s m
  rw [ht] at hother
  exact hother

end Sys2Proof.Machine
end

section
/-! SUPPORT. The invariant (10_state sections 3 to 8): the status flags and the latches after each turn, the data words
the memory holds, and that an aborted block is frozen. -/

namespace Sys2Proof.Machine

/-! ### How the status flags and the step counter belong together (10_state R27 to R32) -/

/-- The flags and the counter `StatusOk` speaks of, but for `IN_HANDLER`. -/
def statusView (s : State) : Bool × BitVec 4 × Bool × Cause := (s.busy, s.stepCtr, s.abort, s.cause)

/-- A block in the handler is not aborted. -/
theorem StatusOk.notAborted {s : State} (h : StatusOk s) (hh : s.inHandler = true) : s.abort = false := by
  cases ha : s.abort with
  | false => rfl
  | true => exact absurd hh (by simp [(h.abortIdle ha).2])

/-- A block with no abort has no cause of one. -/
theorem StatusOk.noCause {s : State} (h : StatusOk s) (ha : s.abort = false) : s.cause = .none := by
  by_contra hc
  exact absurd (h.abortCause.2 hc) (by simp [ha])

/-- A state with one of these five set has booted. -/
theorem StatusOk.booted {s : State} (h : StatusOk s)
    (hx : s.busy = true ∨ s.abort = true ∨ s.inHandler = true ∨ s.fs.pending = true ∨ s.ramCtl.eccEn = true) :
    s.booted = true := by
  cases hb : s.booted with
  | true => rfl
  | false =>
    obtain ⟨h1, h2, h3, h4, h5⟩ := h.unbooted hb
    simp [h1, h2, h3, h4, h5] at hx

/-- A state with the same flags is as good, if the handler runs in no aborted state and what is set before the boot
stays. -/
theorem StatusOk.of_view_eq {s t : State} (h : StatusOk s) (hv : statusView t = statusView s)
    (hh : t.inHandler = true → t.abort = false)
    (hu : t.booted = true ∨ (t.booted = s.booted ∧ t.inHandler = s.inHandler ∧ t.fs.pending = s.fs.pending ∧
      t.ramCtl.eccEn = s.ramCtl.eccEn)) : StatusOk t := by
  obtain ⟨hbusy, hstep, habort, hcause⟩ : t.busy = s.busy ∧ t.stepCtr = s.stepCtr ∧ t.abort = s.abort ∧
      t.cause = s.cause := by simpa [statusView] using hv
  refine ⟨?_, ?_, fun ha => ⟨?_, ?_⟩, ?_, ?_, fun hb => ?_⟩
  · rw [hbusy, hstep]
    exact h.busyStep
  · rw [hbusy, hstep, habort]
    exact h.idleStep
  · rw [hbusy]
    exact (h.abortIdle (habort ▸ ha)).1
  · by_contra hn
    simp [hh (by simpa using hn)] at ha
  · rw [habort, hcause]
    exact h.abortCause
  · rw [habort, hstep, hcause]
    exact h.abortStep
  · rcases hu with hu | ⟨hu, h3, h4, h5⟩
    · simp [hu] at hb
    · rw [hbusy, habort, h3, h4, h5]
      exact h.unbooted (hu ▸ hb)

/-- A run in progress. -/
theorem StatusOk.of_running {t : State} (hb : t.busy = true) (hn : 1 ≤ t.stepCtr.toNat ∧ t.stepCtr.toNat ≤ 10)
    (ha : t.abort = false) (hc : t.cause = .none) (hboot : t.booted = true) : StatusOk t :=
  ⟨fun _ => hn, by simp [hb], by simp [ha], by simp [ha, hc], by simp [ha], by simp [hboot]⟩

/-- A block at rest that has booted. -/
theorem StatusOk.of_idle {t : State} (hb : t.busy = false) (hn : t.stepCtr = 0#4) (ha : t.abort = false)
    (hc : t.cause = .none) (hboot : t.booted = true) : StatusOk t :=
  ⟨by simp [hb], fun _ _ => hn, by simp [ha], by simp [ha, hc], by simp [ha], by simp [hboot]⟩

/-- A state that has just raised an abort. -/
theorem StatusOk.of_raiseAbort {s : State} {x : Cause} (hx : x ≠ .none) (hh : s.inHandler = false)
    (hn : s.stepCtr = if x = .invalidPreset then 4#4 else 0#4) (hboot : s.booted = true) :
    StatusOk (raiseAbort x s) :=
  ⟨by simp, by simp, by simp [hh], by simp [hx], fun _ => hn, by simp [hboot]⟩

/-- The state after a reset. -/
theorem resetStep_statusOk (s : State) : StatusOk (resetStep s) := by
  obtain ⟨l, f, hf, h⟩ := resetStep_eq s
  rw [h]
  constructor <;> simp [State.reset, hf]

theorem hostEffect_statusOk {s t : State} (hs : StatusOk s) (hboot : s.booted = true) (hh : s.inHandler = false)
    (h : HostEffect s t) : StatusOk t := by
  cases h with
  | replied | ignored | operands | programmed | armed | disarmed | cleared =>
    exact hs.of_view_eq rfl hs.notAborted (.inl hboot)
  | aborted x hx hb ha =>
    refine .of_raiseAbort ?_ hh ?_ hboot
    · rcases hx with rfl | rfl <;> simp
    · rcases hx with rfl | rfl <;> simpa using hs.idleStep hb ha
  | started dd pp hta hb ha => exact .of_running rfl (by simp) ha (hs.noCause ha) hboot

theorem seqEffect_statusOk {c : Params} {s t : State} (hs : StatusOk s) (he : seqEnabled s = true)
    (h : SeqEffect c s t) : StatusOk t := by
  obtain ⟨hb, ha, hh, -⟩ := (seqEnabled_iff s).1 he
  have hboot := hs.booted (.inl hb)
  have hc := hs.noCause ha
  cases h with
  | aborted hn => exact .of_raiseAbort (by simp) hh (by simp [hn]) hboot
  | readBack =>
    obtain ⟨f, m, n, h, -⟩ := memRead_state c s.lat.ta s
    rw [h]
    exact .of_idle rfl rfl ha hc hboot
  | _ =>
    refine .of_running hb ?_ ha hc hboot
    simp [seqCorrectParity, seqWrongParities, seqSelectData, seqProgram, seqSettle]

theorem turnEffect_statusOk {u : Turn} {s t : State} (hs : StatusOk s) (h : TurnEffect s u t) : StatusOk t := by
  cases h with
  | waited => exact hs
  | requested ws t hb hh he =>
    exact hostEffect_statusOk (s := s.setHostOps ws) (hs.of_view_eq rfl hs.notAborted (.inl hb)) hb hh he
  | sequenced t he h => exact seqEffect_statusOk hs he h
  | checked a x he hx =>
    obtain ⟨-, -, hecc, -⟩ := (chkEnabled_iff hx).1 he
    obtain ⟨f, m, n, h, -⟩ := faultFound_cases Config.device a x s
    rw [h]
    exact hs.of_view_eq rfl hs.notAborted (.inl (hs.booted (by simp [hecc])))
  | entered he =>
    obtain ⟨hp, -, -, -, ha⟩ := (hndAEnabled_iff s).1 he
    exact hs.of_view_eq rfl (fun _ => ha) (.inl (hs.booted (by simp [hp])))
  | returned he => exact hs.of_view_eq rfl (by simp [handlerStepB_eq]) (.inl (hs.booted (by simp [he])))
  | reset => exact resetStep_statusOk s
  | started hb =>
    obtain ⟨hbusy, ha, hh, -⟩ := hs.unbooted hb
    have hn := hs.idleStep hbusy ha
    rcases bootStep_cases s with ⟨-, h⟩ | ⟨-, h⟩ <;> rw [h]
    · exact .of_idle hbusy hn ha (hs.noCause ha) rfl
    · exact .of_raiseAbort (by simp) hh hn rfl
  | configured _ f _ hf => exact hs.of_view_eq rfl hs.notAborted (.inr ⟨rfl, rfl, hf, rfl⟩)

/-! ### What the latches hold during a run (10_state R38 to R40) -/

/-- Outside a run the latches may hold anything. -/
theorem LatchesOk.of_idle {c : Params} {t : State} (hb : t.busy = false) : LatchesOk c t :=
  ⟨by simp [hb], by simp [hb], by simp [hb], by simp [hb], by simp [hb], by simp [hb]⟩

/-- The same latches are as good where no latch is due that was not due before. -/
theorem LatchesOk.of_lat_eq {c : Params} {s t : State} (h : LatchesOk c s) (hl : t.lat = s.lat)
    (hb : t.busy = true → s.busy = true)
    (hn : ∀ k, 3 ≤ k → k ≤ 6 → k ≤ t.stepCtr.toNat → k ≤ s.stepCtr.toNat) : LatchesOk c t := by
  refine ⟨fun b => ?_, fun b k => ?_, fun b k => ?_, fun b k => ?_, fun b k => ?_, fun b k => ?_⟩ <;> rw [hl]
  · exact h.target (hb b)
  · exact h.pcor (hb b) (hn 3 (by decide) (by decide) k)
  · exact h.wrong (hb b) (hn 4 (by decide) (by decide) k)
  · exact h.preset (hb b) (hn 5 (by decide) (by decide) k)
  · exact h.psel (hb b) (hn 5 (by decide) (by decide) k)
  · exact h.dsel (hb b) (hn 6 (by decide) (by decide) k)

/-- What leaves latches, counter and `BUSY` alone leaves the latches as good. -/
theorem LatchesOk.of_run_eq {c : Params} {s t : State} (h : LatchesOk c s) (hl : t.lat = s.lat)
    (hb : t.busy = s.busy) (hn : t.stepCtr = s.stepCtr) : LatchesOk c t :=
  h.of_lat_eq hl (hb ▸ id) fun _ _ _ => hn ▸ id

/-- The selected parity is the correct one with the bits of the parity fault flipped (43_fault_injector R176). -/
theorem selectParity_eq_xor (pf : FaultCode) (pcor : Byte) :
    selectParity pf pcor (pcor ^^^ 1#8) (pcor ^^^ 3#8) = pcor ^^^ flipMask pf := by
  cases pf
  · exact BitVec.xor_zero.symm
  · rfl
  · rfl

theorem hostEffect_latchesOk {c : Params} {s t : State} (hs : LatchesOk c s) (h : HostEffect s t) :
    LatchesOk c t := by
  cases h with
  | replied | ignored | operands | programmed | armed | disarmed | cleared => exact hs.of_run_eq rfl rfl rfl
  | aborted => exact .of_idle rfl
  | started dd pp hta => exact ⟨fun _ => hta, by simp, by simp, by simp, by simp, by simp⟩

/-- Each step writes the latch that is due from the next one on. -/
theorem seqEffect_latchesOk {c : Params} {s t : State} (hs : LatchesOk c s) (hb : s.busy = true)
    (h : SeqEffect c s t) : LatchesOk c t := by
  cases h with
  | computedParity =>
    exact ⟨fun _ => hs.target hb, fun _ _ => rfl, by simp [seqCorrectParity], by simp [seqCorrectParity],
      by simp [seqCorrectParity], by simp [seqCorrectParity]⟩
  | computedWrong hn =>
    exact ⟨fun _ => hs.target hb, fun _ _ => hs.pcor hb (by simp [hn]), fun _ _ => ⟨rfl, rfl⟩,
      by simp [seqWrongParities], by simp [seqWrongParities], by simp [seqWrongParities]⟩
  | selectedParity hn hlegal =>
    obtain ⟨hp1, hp2⟩ := hs.wrong hb (by simp [hn])
    refine ⟨fun _ => hs.target hb, fun _ _ => hs.pcor hb (by simp [hn]), fun _ _ => ⟨hp1, hp2⟩, fun _ _ => hlegal,
      fun _ _ => ?_, by simp⟩
    simp [hp1, hp2, selectParity_eq_xor]
  | selectedData hn =>
    exact ⟨fun _ => hs.target hb, fun _ _ => hs.pcor hb (by simp [hn]), fun _ _ => hs.wrong hb (by simp [hn]),
      fun _ _ => hs.preset hb (by simp [hn]), fun _ _ => hs.psel hb (by simp [hn]), fun _ _ => rfl⟩
  | aborted | readBack => exact .of_idle rfl
  | wroteCorrect hn | wroteData hn | programmed hn | rewrote hn | settled hn =>
    refine hs.of_lat_eq rfl id fun k hk hk' hkt => ?_
    simp only [hn, seqProgram, seqSettle, State.setStep_stepCtr, BitVec.toNat_ofNat, Nat.reducePow, Nat.reduceMod]
      at hkt ⊢
    omega

theorem turnEffect_latchesOk {u : Turn} {s t : State} (hs : StatusOk s) (hl : LatchesOk Config.device s)
    (h : TurnEffect s u t) : LatchesOk Config.device t := by
  cases h with
  | requested ws t _ _ he => exact hostEffect_latchesOk (s := s.setHostOps ws) (hl.of_run_eq rfl rfl rfl) he
  | sequenced t he h =>
    obtain ⟨hb, -⟩ := (seqEnabled_iff s).1 he
    exact seqEffect_latchesOk hl hb h
  | checked a x _ _ =>
    obtain ⟨f, m, n, h, -⟩ := faultFound_cases Config.device a x s
    rw [h]
    exact hl.of_run_eq rfl rfl rfl
  | reset => exact .of_idle rfl
  | started hb =>
    obtain ⟨hbusy, -⟩ := hs.unbooted hb
    rcases bootStep_cases s with ⟨-, h⟩ | ⟨-, h⟩ <;> rw [h]
    · exact .of_idle hbusy
    · exact .of_idle rfl
  | waited | entered | returned | configured => exact hl.of_run_eq rfl rfl rfl

/-! ### The data words (10_state R51) -/

/-- A cell of a memory in which one was stored is the stored one or was there before. -/
theorem cellAt_storeCell_cases {m : Memory} {a b : Nat} {x y : MemCell} (h : cellAt (storeCell m b x) a = some y) :
    (a = b ∧ y = x) ∨ cellAt m a = some y := by
  by_cases hab : a = b
  · subst hab
    rw [cellAt_storeCell_same] at h
    exact .inl ⟨rfl, (Option.some.inj h).symm⟩
  · rw [cellAt_storeCell_other m x hab] at h
    exact .inr h

@[simp] theorem correctedCell_data (c : Params) (a : Addr) (x : MemCell) (free : Word64) :
    (correctedCell c a x free).data = correctedData c.rows (syndrome c a x) x.data free := rfl

/-- A canonical cell is corrected to a canonical one, or has its one indicated bit flipped back. -/
theorem correctedCell_canonical {c : Params} {a : Addr} {x : MemCell} {free : Word64} {s : State}
    (hx : canonicalData x.data) (ha : s.ramCtl.autoCorrect = true) (hs : c.classify (syndrome c a x) = .single)
    (hfree : canonicalData x.data → canonicalData free) :
    canonicalData (correctedCell c a x free).data ∨ bitCorrected c a.toNat x (correctedCell c a x free) s := by
  rcases correctedData_cases c.rows (syndrome c a x) x.data free with h | h | ⟨j, hj, h⟩
  · exact .inl (by rw [correctedCell_data, h]; exact hfree hx)
  · exact .inl (by rw [correctedCell_data, h]; exact hx)
  · refine .inr ?_
    simp only [bitCorrected, BitVec.ofNat_toNat, BitVec.setWidth_eq]
    exact ⟨ha, hs, j, hj, h, rfl⟩

/-- Whatever a turn makes of a memory of canonical data, its cells are canonical but for a corrected bit. -/
theorem memChange_canonical {s : State} {m : Memory} (hl : LatchesOk Config.device s) (hs : cellsCanonical s)
    (h : MemChange Config.device s m) {a : Nat} {y : MemCell} (hy : cellAt m a = some y) :
    canonicalData y.data ∨ ∃ x, cellAt s.mem a = some x ∧ bitCorrected Config.device a x y s := by
  cases h with
  | kept => exact .inl (hs a y hy)
  | cleared => simp at hy
  | written v p hta hv =>
    rcases cellAt_storeCell_cases hy with ⟨-, rfl⟩ | hy
    · rcases hv with rfl | ⟨rfl, hb, h6⟩
      · exact .inl (.inl rfl)
      · exact .inl (hl.dsel hb h6 ▸ faultedData_canonical _)
    · exact .inl (hs a y hy)
  | corrected b x free hx hau hsi hfree =>
    rcases cellAt_storeCell_cases hy with ⟨rfl, rfl⟩ | hy
    · exact (correctedCell_canonical (hs _ x hx) hau hsi hfree).imp id fun h => ⟨x, hx, h⟩
    · exact .inl (hs a y hy)

/-! ### The invariant -/

/-- Every turn keeps the invariant, part by part. -/
theorem turnEffect_inv {u : Turn} {s t : State} (hs : Inv s) (h : TurnEffect s u t) : Inv t :=
  ⟨memChange_wf hs.memory (turnEffect_memChange h), flagsAgree_of_keptOrTogether hs.flags (turnEffect_flags h),
    turnEffect_statusOk hs.status h, turnEffect_latchesOk hs.status hs.latches h⟩

/-- The invariant does not speak of the list of turns. -/
theorem Inv.setTurns {s : State} (h : Inv s) (us : List Turn) : Inv (s.setTurns us) :=
  ⟨h.memory, h.flags, h.status.of_view_eq rfl h.status.notAborted (.inr ⟨rfl, rfl, rfl, rfl⟩),
    h.latches.of_run_eq rfl rfl rfl⟩

/-- Settles O10: a step is a turn; the invariant by `turnEffect_inv`, the cells by what a turn can make of the memory.
-/
theorem stepKeepsInvariant : Obligations.StepKeepsInvariant := by
  intro s t hs h
  obtain ⟨u, us, he⟩ := step_turnEffect h
  exact ⟨turnEffect_inv (hs.setTurns us) he, fun hc a y hy =>
    memChange_canonical (hs.setTurns us).latches hc (turnEffect_memChange he) hy⟩

/-- Settles O9: at reset the memory is empty, every flag clear and no run in progress. -/
theorem resetMeetsInvariant : Obligations.ResetMeetsInvariant := by
  refine ⟨⟨rfl, ⟨rfl, rfl⟩, ?_, .of_idle rfl⟩, fun a x h => by simp [State.reset] at h⟩
  exact (resetStep_statusOk State.reset).of_view_eq rfl (by simp [State.reset]) (.inr ⟨rfl, rfl, rfl, rfl⟩)

/-- Settles O13: the one stop needs a run with a misaligned target, which the invariant excludes. -/
theorem stepAlwaysGoesOn : Obligations.StepAlwaysGoesOn := by
  intro s hs
  rcases step_next_or_fault s with h | ⟨-, hbusy, hta, -⟩
  · exact h
  · exact absurd (hs.latches.target hbusy) (by simp [hta])

/-! ### The abort (10_state R30, 60_exceptions R201) -/

/-- `ABORT` is as before or clear, or the block's state is that of `s` after `raise Abort`. -/
def abortKeptOrRaised (s t : State) : Prop :=
  t.abort = s.abort ∨ t.abort = false ∨ ∃ x, x ≠ .none ∧ blockOf t = blockOf (raiseAbort x s)

theorem hostEffect_abort {s t : State} (h : HostEffect s t) : abortKeptOrRaised s t := by
  cases h with
  | aborted x hx => exact .inr (.inr ⟨x, by rcases hx with rfl | rfl <;> simp, rfl⟩)
  | replied | ignored | operands | programmed | armed | disarmed | cleared | started => exact .inl rfl

theorem seqEffect_abort {c : Params} {s t : State} (h : SeqEffect c s t) : abortKeptOrRaised s t := by
  cases h with
  | aborted => exact .inr (.inr ⟨.invalidPreset, by simp, rfl⟩)
  | readBack => exact .inl (memRead_abort c s.lat.ta s)
  | _ => exact .inl rfl

theorem turnEffect_abort {u : Turn} {s t : State} (h : TurnEffect s u t) : abortKeptOrRaised s t := by
  cases h with
  | requested ws t _ _ he => exact hostEffect_abort (s := s.setHostOps ws) he
  | sequenced t _ h => exact seqEffect_abort h
  | checked a x =>
    obtain ⟨f, m, n, h, -⟩ := faultFound_cases Config.device a x s
    exact .inl (by simp [h])
  | reset => exact .inr (.inl rfl)
  | started =>
    rcases bootStep_cases s with ⟨-, h⟩ | ⟨-, h⟩ <;> rw [h]
    · exact .inl rfl
    · exact .inr (.inr ⟨.initFailed, by simp, rfl⟩)
  | waited | entered | returned | configured => exact .inl rfl

/-- An operation of HOST changes nothing of an aborted block: a read replies, a write is ignored. -/
theorem exec_blockOf_of_aborted {i : Instr} {s t : State} (ha : s.abort = true) (h : exec i s = .next t) :
    blockOf t = blockOf s := by
  rw [exec_eq] at h
  split at h <;> obtain rfl := Host.Outcome.next.inj h
  · rfl
  · rw [hostWrite_ignored (.inr ha)]
  · rw [hostWrite_ignored (.inr ha)]

/-- In an aborted block every turn but a reset waits, or is HOST's and changes nothing of the block. -/
theorem takeTurn_blockOf_of_aborted {u : Turn} {s t : State} (hs : StatusOk s) (ha : s.abort = true)
    (h1 : u ≠ .extReset) (h2 : u ≠ .rstFault) (h : takeTurn u s = .next t) : blockOf t = blockOf s := by
  cases takeTurn_turnEffect h with
  | waited => rfl
  | requested =>
    rcases hostTurn_cases s with ⟨-, w, ws, -, he⟩ | he
    · exact exec_blockOf_of_aborted (s := s.setHostOps ws) ha (he.symm.trans h)
    · exact Host.Outcome.next.inj (he.symm.trans h) ▸ rfl
  | sequenced _ he =>
    obtain ⟨-, habort, -⟩ := (seqEnabled_iff s).1 he
    simp [ha] at habort
  | checked a x he hx =>
    obtain ⟨-, habort, -⟩ := (chkEnabled_iff hx).1 he
    simp [ha] at habort
  | entered he =>
    obtain ⟨-, -, -, -, habort⟩ := (hndAEnabled_iff s).1 he
    simp [ha] at habort
  | returned he => exact absurd (hs.notAborted he) (by simp [ha])
  | reset _ hu => exact absurd hu (by simp [h1, h2])
  | started hb =>
    obtain ⟨-, habort, -⟩ := hs.unbooted hb
    simp [ha] at habort
  | configured _ _ hc => exact absurd hc (by simp [ha])

/-- Settles O16: an abort is set only by being raised; in an aborted block no agent but reset is enabled for more than a
read, which O19 describes. -/
theorem abortedBlockIsFrozen : Obligations.AbortedBlockIsFrozen := by
  refine ⟨fun u s t hs h ht => ?_, fun s hi ha => ⟨fun u t h1 h2 h =>
    takeTurn_blockOf_of_aborted hi.status ha h1 h2 h, fun r => busReadReturnsTheRegister r s⟩⟩
  rcases turnEffect_abort (takeTurn_turnEffect h) with hk | hk | ⟨x, hx, hk⟩
  · simp [hk, hs] at ht
  · simp [hk] at ht
  · have hcause : t.cause = x := congrArg State.cause hk
    rw [hcause]
    exact ⟨hx, hk⟩

end Sys2Proof.Machine
end

section
/-! SUPPORT. The Codeword Builder and the Parity Generator (40_codeword_builder, 41_parity_generator): word addresses
count the cells of the bank, the parity of a single bit and of a flipped one, and what ECCGEN does. -/

namespace Sys2Proof.Machine

/-! ### Word addresses count cells (40_codeword_builder R121, 95_test_vectors 3.1) -/

/-- The word address is that of the offset into the bank. -/
theorem wordAddrNumber_eq_offset (c : Params) (a : Addr) :
    wordAddrNumber c a = (a - c.bankBase).toNat % 2 ^ (c.bankBits.val + 3) / 8 := by
  rw [wordAddrNumber, BitVec.toNat_sub, Nat.add_comm a.toNat]

/-- The bank's size is below `2^32`, so it divides `2^32` and is one more than the mask. -/
theorem bankSize_lt (c : Params) : 2 ^ (c.bankBits.val + 3) < 2 ^ 32 :=
  Nat.pow_lt_pow_right (by decide) (by omega)

/-- The cell at an offset within the bank. -/
theorem wordAddrNumber_of_offset (c : Params) {n : Nat} (hn : n < 2 ^ c.bankBits.val) :
    wordAddrNumber c (c.bankBase + BitVec.ofNat 32 (8 * n)) = n := by
  have hsize := bankSize_lt c
  have h8 : 8 * n < 2 ^ (c.bankBits.val + 3) := by
    rw [Nat.pow_add]
    omega
  rw [wordAddrNumber_eq_offset, add_sub_cancel_left, BitVec.toNat_ofNat, Nat.mod_eq_of_lt (h8.trans hsize),
    Nat.mod_eq_of_lt h8, Nat.mul_div_cancel_left n (by decide)]

/-- One bank size on the offset is the same modulo the bank size. -/
theorem wordAddrNumber_add_bankSize (c : Params) (a : Addr) :
    wordAddrNumber c (a + bankMask c + 1#32) = wordAddrNumber c a := by
  have hsize := bankSize_lt c
  have hpos := Nat.two_pow_pos (c.bankBits.val + 3)
  have hmask : (bankMask c + 1#32).toNat = 2 ^ (c.bankBits.val + 3) := by
    rw [BitVec.toNat_add, bankMask_toNat, BitVec.toNat_ofNat, Nat.mod_eq_of_lt (a := 1) (by decide),
      Nat.sub_add_cancel hpos, Nat.mod_eq_of_lt hsize]
  have hoffset : a + bankMask c + 1#32 - c.bankBase = (a - c.bankBase) + (bankMask c + 1#32) := by ring
  have hdvd : 2 ^ (c.bankBits.val + 3) ∣ 2 ^ 32 := Nat.pow_dvd_pow 2 (by omega)
  rw [wordAddrNumber_eq_offset, wordAddrNumber_eq_offset, hoffset, BitVec.toNat_add, hmask,
    Nat.mod_mod_of_dvd _ hdvd, Nat.add_mod_right]

/-- Settles O24: all three as numbers; the base is the cell at offset 0. -/
theorem wordAddressCountsCells : Obligations.WordAddressCountsCells := by
  refine fun c => ⟨?_, fun n hn => ?_, fun a => ?_⟩
  · have h0 := wordAddrNumber_of_offset c (Nat.two_pow_pos c.bankBits.val)
    rw [BitVec.add_zero] at h0
    rw [← BitVec.toNat_inj, wordAddr_toNat, h0]
    rfl
  · rw [wordAddr_toNat, wordAddrNumber_of_offset c hn]
  · rw [← BitVec.toNat_inj, wordAddr_toNat, wordAddr_toNat, wordAddrNumber_add_bankSize]

/-! ### The parity of single bits (41_parity_generator R133) -/

theorem xorBelow_zero (m n : Nat) : xorBelow (0#m) n = false := by
  induction n with
  | zero => rfl
  | succ n ih => simp [xorBelow, ih]

/-- Of a single bit the XOR of the low `n` bits sees whether it is one of them. -/
theorem xorBelow_twoPow {m j : Nat} (hj : j < m) (n : Nat) : xorBelow (BitVec.twoPow m j) n = decide (j < n) := by
  induction n with
  | zero => simp [xorBelow]
  | succ n ih =>
    rw [xorBelow, ih, BitVec.getLsbD_twoPow]
    rcases Nat.lt_trichotomy j n with h | rfl | h
    · simp [h, h.ne, h.trans (Nat.lt_succ_self n)]
    · simp [hj]
    · simp [h.ne', Nat.lt_asymm h, Nat.not_lt.2 (Nat.succ_le_of_lt h)]

/-- The lane of a limb with a single bit is that bit of the row. -/
theorem xorReduce_twoPow_and {m j : Nat} (hj : j < m) (r : BitVec m) :
    xorReduce (BitVec.twoPow m j &&& r) = r.getLsbD j := by
  rw [BitVec.twoPow_and, xorReduce]
  cases r.getLsbD j
  · exact xorBelow_zero m m
  · simp [xorBelow_twoPow hj, hj]

/-- The codeword that has only bit `j` set. -/
def singleBit (j : Nat) : Word128 := if j < 64 then ⟨1#64 <<< j, 0#64⟩ else ⟨0#64, 1#64 <<< (j - 64)⟩

/-- A lane sees of the codeword with only bit `j` set bit `j` of the row. -/
theorem parityLane_singleBit (row : Word128) {j : Nat} (hj : j < 128) :
    parityLane row (singleBit j) = bit128 row j := by
  have hzero (r : Word64) : xorReduce (0#64 &&& r) = false := by
    rw [BitVec.zero_and]
    exact xorBelow_zero 64 64
  unfold parityLane singleBit bit128
  split
  · rw [← BitVec.twoPow_eq, xorReduce_twoPow_and ‹_›, hzero, Bool.xor_false]
  · rw [← BitVec.twoPow_eq, xorReduce_twoPow_and (by omega), hzero, Bool.false_xor]

/-- The parity of the codeword with only bit `j` set is column `j`, lane by lane. -/
theorem parGen_singleBit (rows : Fin 8 → Word128) {j : Nat} (hj : j < 128) :
    parGen rows (singleBit j) = column rows j :=
  congrArg (packBits · 8) (funext fun i => parityLane_singleBit (rowAt rows i) hj)

/-- Settles O30: the parity by `parGen_singleBit`, the bits of a column as those of a packed value. -/
theorem singleBitParityIsItsColumn : Obligations.SingleBitParityIsItsColumn := by
  refine fun rows j hj => ⟨parGen_singleBit rows hj, fun i => ?_⟩
  rw [column, getLsbD_packBits _ i.isLt, rowAt, Fin.ofNat_val_eq_self, bit128]

/-! ### Flipped bits (41_parity_generator R138, R140) -/

/-- Data with bits flipped give the codeword with these bits flipped in its low limb. -/
theorem codeword_xor (c : Params) (d e : Word64) (a : Addr) :
    codeword c (d ^^^ e) a = xor128 (codeword c d a) ⟨e, 0#64⟩ := by
  simp [codeword, xor128]

/-- A flipped data bit changes the correct parity by its column: the parity is linear. -/
theorem ecc_flip (c : Params) (d : Word64) (a : Addr) {j : Nat} (hj : j < 64) :
    ecc c (d ^^^ 1#64 <<< j) a = ecc c d a ^^^ column c.rows j := by
  have hsingle : singleBit j = ⟨1#64 <<< j, 0#64⟩ := if_pos hj
  rw [ecc, codeword_xor, parGen_xor128, ← hsingle, parGen_singleBit c.rows (by omega), ecc]

/-- Settles O31: the data bit by `ecc_flip`; the stored parity stands in the syndrome as a term of an XOR. -/
theorem bitFlipsChangeTheSyndrome : Obligations.BitFlipsChangeTheSyndrome :=
  fun c a x => ⟨fun _ hj => ecc_flip c x.data a hj, fun _ _ => (BitVec.xor_assoc _ _ _).symm⟩

/-! ### ECCGEN (41_parity_generator R135) -/

/-- The effect of ECCGEN is two assignments, to `W` and to `P`. -/
theorem eccgenEffect_eq (c : Params) (s : State) :
    eccgenEffect c s = { s with w := ⟨s.d, BitVec.ofNat 64 (wordAddrNumber c s.a)⟩, p := ecc c s.d s.a } := by
  rw [← codeword_eq]
  rfl

/-- ECCGEN is a HOST write. -/
theorem exec_eccgen (s : State) : exec .eccgen s = .next (hostWrite (eccgenEffect Config.device) s) := rfl

/-- ECCGEN is CWBUILD and then PARGEN, accepted or ignored. -/
theorem hostWrite_eccgen (c : Params) (s : State) :
    hostWrite (eccgenEffect c) s = hostWrite (pargenEffect c) (hostWrite (cwbuildEffect c) s) := by
  by_cases hi : s.busy = true ∨ s.abort = true
  · rw [hostWrite_ignored hi, hostWrite_ignored hi, hostWrite_ignored hi]
  · simp only [not_or, Bool.not_eq_true] at hi
    obtain ⟨hb, ha⟩ := hi
    rw [hostWrite_accepted hb ha, hostWrite_accepted (f := cwbuildEffect c) hb ha]
    exact (hostWrite_accepted (f := pargenEffect c) (s := cwbuildEffect c s) hb ha).symm

/-- Settles O28: the two answers of a HOST write, and the composition by `hostWrite_eccgen`. -/
theorem eccgenIsCwbuildThenPargen : Obligations.EccgenIsCwbuildThenPargen := by
  intro s
  obtain ⟨haccepted, hignored⟩ := exec_accepted_and_ignored (exec_eccgen s)
  refine ⟨fun hb ha => ?_, hignored, hostWrite (cwbuildEffect Config.device) s, exec_cwbuild s, ?_⟩
  · rw [haccepted hb ha, eccgenEffect_eq]
  · rw [exec_eccgen, exec_pargen, hostWrite_eccgen]

end Sys2Proof.Machine
end

section
/-! SUPPORT. The checker (20_memory R68 to R75): what a read and a background evaluation leave, what a correction
gives, and the classes of the presets' syndromes. -/

namespace Sys2Proof.Machine

/-! ### A fault found (20_memory R68, R74) -/

/-- A fault found leaves what its capture leaves, with the memory the automatic correction may make. -/
theorem faultFound_eq_capture (c : Params) (a : Addr) (x : MemCell) (s : State) :
    ∃ m n, faultFound c a x s = { capture c (syndrome c a x) s with mem := m, draws := n } ∧ mayBecome c a x s m := by
  obtain ⟨f, k, hcap, -⟩ := capture_frame c (syndrome c a x) s
  rw [faultFound, hcap]
  rcases autoCorrect_cases c a x ((s.setFs f).tookDraws k) with ⟨n, h⟩ | ⟨ha, hs, n, free, hfree, h⟩ <;> rw [h]
  · exact ⟨s.mem, _, rfl, .inl rfl⟩
  · exact ⟨_, _, rfl, .inr ⟨ha, hs, free, _, rfl, hfree, rfl⟩⟩

/-- Without `AUTO_CORRECT`, or for a fault classified Multi, a fault found is its capture. -/
theorem faultFound_of_uncorrected {c : Params} {a : Addr} {x : MemCell} {s : State}
    (h : s.ramCtl.autoCorrect = false ∨ c.classify (syndrome c a x) = .multi) :
    faultFound c a x s = capture c (syndrome c a x) s := by
  obtain ⟨f, k, hcap, -⟩ := capture_frame c (syndrome c a x) s
  rw [faultFound, hcap]
  rcases h with h | h <;> simp [autoCorrect, h]

/-- Settles O45: the three cases of a read; a fault found sets of `FS` what its capture sets. -/
theorem memReadChecksTheCell : Obligations.MemReadChecksTheCell := by
  intro c a s
  rcases memRead_cases c a s with ⟨hx, h⟩ | ⟨x, hx, hclean, h⟩ | ⟨x, hx, hen, hsyn, h⟩
  · exact ⟨fun _ => ⟨_, _, h⟩, by simp [hx]⟩
  · refine ⟨by simp [hx], fun y hy => ?_⟩
    obtain rfl : x = y := Option.some.inj (hx.symm.trans hy)
    rw [syndrome_eq_zero_iff] at hclean
    refine ⟨fun _ => h, fun hen hne => ?_⟩
    rcases hclean with hc | hc
    · simp [hc] at hen
    · exact absurd hc hne
  · refine ⟨by simp [hx], fun y hy => ?_⟩
    obtain rfl : x = y := Option.some.inj (hx.symm.trans hy)
    rw [Ne, syndrome_eq_zero_iff] at hsyn
    refine ⟨by simp [hen, hsyn], fun _ _ => ?_⟩
    obtain ⟨m, n, hfound, hm⟩ := faultFound_eq_capture c a x s
    obtain ⟨f, k, hcap, hp, -⟩ := capture_frame c (syndrome c a x) s
    refine ⟨Config.drawWord64 (faultFound c a x s).draws, (capture c (syndrome c a x) s).fs, m, n + 1, ?_, rfl, ?_, hm⟩
    · rw [h, hfound, hcap]
      rfl
    · rw [hcap]
      exact hp

/-- Settles O52: the turn by definition, the condition by `chkEnabled_iff`, the effect as that of a fault found. -/
theorem backgroundCheckCaptures : Obligations.BackgroundCheckCaptures := by
  refine ⟨fun a s => rfl, fun c a x s hx => ⟨chkEnabled_iff hx, ?_⟩⟩
  have hfound : backgroundCheck c a s = faultFound c a x s := by simp only [backgroundCheck, hx]
  rw [hfound]
  exact ⟨faultFound_of_uncorrected, faultFound_eq_capture c a x s⟩

/-! ### The corrected data (20_memory R74) -/

/-- A syndrome that is the column of one data or parity bit indicates that bit alone. -/
theorem indicated_eq_singleton {rows : Fin 8 → Word128} {syn : Byte} {j : Nat} (hj : j < 64 ∨ (128 ≤ j ∧ j < 136))
    (h : ∀ l, l < 64 ∨ (128 ≤ l ∧ l < 136) → (extColumn rows l = syn ↔ l = j)) : indicated rows syn = [j] := by
  have hmem : ∀ l, l ∈ indicated rows syn ↔ l ∈ [j] := fun l => by
    rw [mem_indicated, List.mem_singleton]
    exact ⟨fun ⟨hl, he⟩ => (h l hl).1 he, fun he => he ▸ ⟨hj, (h j hj).2 rfl⟩⟩
  have hnodup : (indicated rows syn).Nodup := List.nodup_range.filter _
  exact List.perm_singleton.1 ((List.perm_ext_iff_of_nodup hnodup (List.nodup_singleton j)).2 hmem)

/-- Settles O46: the one indicated bit decides. -/
theorem correctionFlipsTheIndicatedBit : Obligations.CorrectionFlipsTheIndicatedBit := by
  intro rows d free j hj h
  simp only [correctedData, indicated_eq_singleton hj h]

/-! ### Classes of syndromes (43_fault_injector R186, 20_memory R71, R72) -/

/-- By default the class is Single for the columns of `[H | I8]`. -/
theorem classifyDefault_column (rows : Fin 8 → Word128) {j : Nat} (hj : j < 136) :
    classifyDefault rows (extColumn rows j) = .single :=
  if_pos (List.any_eq_true.2 ⟨j, List.mem_range.2 hj, by simp⟩)

/-- By default the class is Multi for what is no column of `[H | I8]`. -/
theorem classifyDefault_multi {rows : Fin 8 → Word128} {syn : Byte} (h : ∀ j, j < 136 → syn ≠ extColumn rows j) :
    classifyDefault rows syn = .multi := by
  refine if_neg fun hany => ?_
  obtain ⟨j, hj, he⟩ := List.any_eq_true.1 hany
  exact h j (List.mem_range.1 hj) (by simpa using Eq.symm (beq_iff_eq.1 he))

/-- Under SECDED two different live columns differ by no column, so by a syndrome classified Multi. -/
theorem Secded.classify_pair {rows : Fin 8 → Word128} {k i j : Nat} (h : Secded rows k) (hi : livePosition k i)
    (hj : livePosition k j) (hij : i ≠ j) : classifyDefault rows (extColumn rows i ^^^ extColumn rows j) = .multi :=
  classifyDefault_multi fun l hl => h.sums i j l hi hj hij hl

/-- A live position is a column of `[H | I8]`. -/
theorem livePosition_lt {k i : Nat} (hk : k ≤ 27) (h : livePosition k i) : i < 136 := by
  unfold livePosition at h
  omega

theorem livePosition_data (k : Nat) {i : Nat} (h : i < 64) : livePosition k i := .inl (by omega)

theorem livePosition_parity (k : Nat) {i : Nat} (h : 128 ≤ i ∧ i < 136) : livePosition k i := .inr h

@[simp] theorem flipMask_none : flipMask .none = 0#8 := rfl

/-- The mask of one flipped parity bit is the column of parity bit 0. -/
theorem flipMask_oneBit (rows : Fin 8 → Word128) : flipMask .oneBit = extColumn rows 128 := rfl

/-- The mask of two flipped parity bits is the sum of the columns of parity bits 0 and 1. -/
theorem flipMask_twoBit (rows : Fin 8 → Word128) : flipMask .twoBit = extColumn rows 128 ^^^ extColumn rows 129 := by
  have h129 : extColumn rows 129 = 2#8 := rfl
  rw [← flipMask_oneBit, h129]
  rfl

@[simp] theorem flippedColumns_none (rows : Fin 8 → Word128) : flippedColumns rows .none = 0#8 := rfl

theorem flippedColumns_oneBit (rows : Fin 8 → Word128) : flippedColumns rows .oneBit = extColumn rows 0 := rfl

theorem flippedColumns_twoBit (rows : Fin 8 → Word128) :
    flippedColumns rows .twoBit = extColumn rows 0 ^^^ extColumn rows 1 := rfl

/-- Settles O51: each preset's syndrome is a sum of columns of flipped bits, of which there are none, one or two. -/
theorem presetSyndromesClassify : Obligations.PresetSyndromesClassify := by
  intro rows
  refine ⟨BitVec.xor_self, ?_, fun h0 => ⟨?_, ?_⟩, fun k _ hk hs => ⟨fun i hi => ⟨hs.nonzero i hi, ?_⟩,
    fun i j hi hj hij => ⟨?_, hs.classify_pair hi hj hij⟩, ?_, ?_, ?_, ?_⟩⟩
  · rw [flippedColumns_none, BitVec.zero_xor, flipMask_oneBit rows]
    exact classifyDefault_column rows (by decide)
  · rw [flipMask_none, BitVec.xor_zero]
    exact h0
  · rw [flipMask_none, BitVec.xor_zero, flippedColumns_oneBit]
    exact classifyDefault_column rows (by decide)
  · exact classifyDefault_column rows (livePosition_lt hk hi)
  · rw [Ne, BitVec.xor_eq_zero_iff]
    exact hs.distinct i j hi hj hij
  · exact hs.nonzero 0 (livePosition_data k (by decide))
  · rw [flippedColumns_none, BitVec.zero_xor, flipMask_twoBit rows]
    exact hs.classify_pair (livePosition_parity k (by decide)) (livePosition_parity k (by decide)) (by decide)
  · rw [flippedColumns_oneBit, flipMask_oneBit rows]
    exact hs.classify_pair (livePosition_data k (by decide)) (livePosition_parity k (by decide)) (by decide)
  · rw [flipMask_none, BitVec.xor_zero, flippedColumns_twoBit]
    exact hs.classify_pair (livePosition_data k (by decide)) (livePosition_data k (by decide)) (by decide)

end Sys2Proof.Machine
end

section
/-! SUPPORT. Undisturbed runs (43_fault_injector R185, R189): the ten steps one after another from an idle, disarmed
state, and what the read of step 10 leaves. -/

namespace Sys2Proof.Machine

/-! ### One step of an undisturbed run -/

/-- The state `s` with a run in progress at step `k`, with the latches `l` and the memory `m`. -/
def State.inRun (s : State) (l : Latches) (m : Memory) (k : BitVec 4) : State :=
  { s with lat := l, mem := m, busy := true, stepCtr := k }

/-- A run goes on with what its protocol step leaves. -/
theorem runSeq_inRun {c : Params} {n : Nat} {s t : State} {l : Latches} {m : Memory} {k : BitVec 4}
    (ha : s.abort = false) (hh : s.inHandler = false) (h : seqStep c (s.inRun l m k) = .next t)
    (hk : 1 ≤ k.toNat ∧ k.toNat ≤ 10 := by decide) : runSeq c (n + 1) (s.inRun l m k) = runSeq c n t := by
  have he : seqEnabled (s.inRun l m k) = true := (seqEnabled_iff _).2 ⟨rfl, ha, hh, hk⟩
  simp only [runSeq, he, if_true, h]

/-- Where SEQ is not enabled a run is over. -/
theorem runSeq_of_disabled {c : Params} {s : State} (n : Nat) (h : seqEnabled s = false) : runSeq c n s = .next s := by
  cases n with
  | zero => rfl
  | succ n => simp [runSeq, h]

/-- Disarmed, a write stores the correct parity. -/
theorem memWrite_of_disarmed {c : Params} {a : Addr} {v : Word64} {s : State} (h : s.ramCtl.injEn = false) :
    memWrite c a v s = s.setMem (storeCell s.mem a.toNat ⟨v, ecc c v a⟩) := by
  simp [memWrite_eq, injectionHit, h]

/-- Armed, a write of the monitored word stores the programmed parity. -/
theorem memWrite_of_hit {c : Params} {a : Addr} {v : Word64} {s : State} (h : s.ramCtl.injEn = true)
    (hw : s.eccCtl.wordAddr = wordAddr24 c a) :
    memWrite c a v s = s.setMem (storeCell s.mem a.toNat ⟨v, s.eccCtl.parity⟩) := by
  simp [memWrite_eq, injectionHit, h, hw]

/-! ### Steps 1 to 3 -/

/-- The latches after step 3 of a run started in `s`. -/
def checkedLatches (c : Params) (df pf : FaultCode) (s : State) : Latches :=
  { s.lat with
    ta := s.a
    df := df
    pf := pf
    pcor := ecc c correctWord s.a
    p1 := ecc c correctWord s.a ^^^ 0x01#8
    p2 := ecc c correctWord s.a ^^^ 0x03#8 }

/-- The memory after step 1 of a run started in `s`. -/
def correctMemory (c : Params) (s : State) : Memory :=
  storeCell s.mem s.a.toNat ⟨correctWord, ecc c correctWord s.a⟩

section
variable {c : Params} {s : State} {df pf : FaultCode} (ha : s.abort = false) (hh : s.inHandler = false)
  (hidle : s.ramCtl = ⟨false, false, false⟩) (hta : s.a.toNat % 8 = 0)
include ha hh hidle hta

/-- The first three steps write the correct cell and compute the parities. -/
theorem runSeq_to_step_4 (n : Nat) :
    runSeq c (n + 3) (injectEffect df pf s) =
      runSeq c n (s.inRun (checkedLatches c df pf s) (correctMemory c s) 4#4) := by
  have h1 : seqStep c (s.inRun { s.lat with ta := s.a, df := df, pf := pf } s.mem 1#4) =
      .next (s.inRun { s.lat with ta := s.a, df := df, pf := pf } (correctMemory c s) 2#4) := by
    rw [seqStep_at_1 rfl, seqWriteCorrect, onTarget_of_aligned _ hta,
      memWrite_of_disarmed (by simp [State.inRun, hidle])]
    rfl
  rw [injectEffect_of_aligned df pf hta]
  calc runSeq c (n + 3) (s.inRun { s.lat with ta := s.a, df := df, pf := pf } s.mem 1#4)
      = runSeq c (n + 2) (s.inRun { s.lat with ta := s.a, df := df, pf := pf } (correctMemory c s) 2#4) :=
        runSeq_inRun ha hh h1
    _ = runSeq c (n + 1) (s.inRun { s.lat with ta := s.a, df := df, pf := pf, pcor := ecc c correctWord s.a }
          (correctMemory c s) 3#4) := runSeq_inRun ha hh (seqStep_at_2 rfl)
    _ = runSeq c n (s.inRun (checkedLatches c df pf s) (correctMemory c s) 4#4) :=
        runSeq_inRun ha hh (seqStep_at_3 rfl)

/-! ### An illegal preset (43_fault_injector R189) -/

/-- An illegal preset ends the run at step 4. -/
theorem runSeq_of_illegal (h : 2 < flipCount df + flipCount pf) :
    runSeq c 10 (injectEffect df pf s) =
      .next (raiseAbort .invalidPreset (s.inRun (checkedLatches c df pf s) (correctMemory c s) 4#4)) := by
  have h4 := seqStep_at_4 (c := c) (s := s.inRun (checkedLatches c df pf s) (correctMemory c s) 4#4) rfl
  rw [seqSelectParity_of_illegal h] at h4
  rw [runSeq_to_step_4 ha hh hidle hta 7, runSeq_inRun ha hh h4]
  exact runSeq_of_disabled 6 (by simp [seqEnabled])

end

/-- Settles O50: accepted by O37, then the steps to the abort; the memory is one store away from that of `s`. -/
theorem illegalPresetAbortsAtStepFour : Obligations.IllegalPresetAbortsAtStepFour := by
  intro c df pf s h hb ha hh hidle hta
  obtain ⟨haccepted, -⟩ := exec_accepted_and_ignored (exec_inject df pf s)
  exact ⟨injectEffect df pf s, correctMemory c s, haccepted hb ha, runSeq_of_illegal ha hh hidle hta h,
    cellAt_storeCell_same _ _ _, fun b hne => cellAt_storeCell_other _ _ hne⟩

/-! ### Steps 4 to 9 of a legal preset -/

/-- The latches after step 5 of a run of a legal preset started in `s`. -/
def selectedLatches (c : Params) (df pf : FaultCode) (s : State) : Latches :=
  { checkedLatches c df pf s with
    psel := ecc c correctWord s.a ^^^ flipMask pf
    dsel := faultedData df }

/-- The target cell as step 8 leaves it: the selected data with the selected parity. -/
def faultedCell (c : Params) (df pf : FaultCode) (a : Addr) : MemCell :=
  ⟨faultedData df, ecc c correctWord a ^^^ flipMask pf⟩

/-- The memory after step 6. -/
def dataMemory (c : Params) (df : FaultCode) (s : State) : Memory :=
  storeCell (correctMemory c s) s.a.toNat ⟨faultedData df, ecc c (faultedData df) s.a⟩

/-- The memory after step 8. -/
def faultedMemory (c : Params) (df pf : FaultCode) (s : State) : Memory :=
  storeCell (dataMemory c df s) s.a.toNat (faultedCell c df pf s.a)

/-- The state `s` programmed and armed by step 7. -/
def State.programmed (s : State) (c : Params) (pf : FaultCode) : State :=
  { s with eccCtl := ⟨wordAddr24 c s.a, ecc c correctWord s.a ^^^ flipMask pf⟩, ramCtl := ⟨true, true, true⟩ }

/-- The state that step 10 of a run of a legal preset finds. -/
def beforeReadBack (c : Params) (df pf : FaultCode) (s : State) : State :=
  (s.programmed c pf).inRun (selectedLatches c df pf s) (faultedMemory c df pf s) 10#4

section
variable {c : Params} {s : State} {df pf : FaultCode} (ha : s.abort = false) (hh : s.inHandler = false)
  (hidle : s.ramCtl = ⟨false, false, false⟩) (hta : s.a.toNat % 8 = 0) (hlegal : flipCount df + flipCount pf ≤ 2)
include ha hh hidle hta hlegal

/-- Steps 4 to 6 select the parity and the data and write the data. -/
theorem runSeq_to_step_7 (n : Nat) :
    runSeq c (n + 6) (injectEffect df pf s) =
      runSeq c n (s.inRun (selectedLatches c df pf s) (dataMemory c df s) 7#4) := by
  have h4 : seqStep c (s.inRun (checkedLatches c df pf s) (correctMemory c s) 4#4) = .next (s.inRun
      { checkedLatches c df pf s with psel := ecc c correctWord s.a ^^^ flipMask pf } (correctMemory c s) 5#4) := by
    rw [seqStep_at_4 rfl, seqSelectParity_of_legal hlegal, ← selectParity_eq_xor]
    rfl
  have h6 : seqStep c (s.inRun (selectedLatches c df pf s) (correctMemory c s) 6#4) =
      .next (s.inRun (selectedLatches c df pf s) (dataMemory c df s) 7#4) := by
    rw [seqStep_at_6 rfl, seqWriteData, onTarget_of_aligned _ hta, memWrite_of_disarmed (by simp [State.inRun, hidle])]
    rfl
  calc runSeq c (n + 6) (injectEffect df pf s)
      = runSeq c (n + 3) (s.inRun (checkedLatches c df pf s) (correctMemory c s) 4#4) :=
        runSeq_to_step_4 ha hh hidle hta (n + 3)
    _ = runSeq c (n + 2) (s.inRun { checkedLatches c df pf s with psel := ecc c correctWord s.a ^^^ flipMask pf }
          (correctMemory c s) 5#4) := runSeq_inRun ha hh h4
    _ = runSeq c (n + 1) (s.inRun (selectedLatches c df pf s) (correctMemory c s) 6#4) :=
        runSeq_inRun ha hh (seqStep_at_5 rfl)
    _ = runSeq c n (s.inRun (selectedLatches c df pf s) (dataMemory c df s) 7#4) := runSeq_inRun ha hh h6

/-- Steps 7 to 9 program and arm, write the faulted cell and wait. -/
theorem runSeq_to_step_10 (n : Nat) :
    runSeq c (n + 9) (injectEffect df pf s) = runSeq c n (beforeReadBack c df pf s) := by
  have h8 : seqStep c ((s.programmed c pf).inRun (selectedLatches c df pf s) (dataMemory c df s) 8#4) =
      .next ((s.programmed c pf).inRun (selectedLatches c df pf s) (faultedMemory c df pf s) 9#4) := by
    rw [seqStep_at_8 rfl, seqRewrite, onTarget_of_aligned _ hta, memWrite_of_hit rfl rfl]
    rfl
  calc runSeq c (n + 9) (injectEffect df pf s)
      = runSeq c (n + 3) (s.inRun (selectedLatches c df pf s) (dataMemory c df s) 7#4) :=
        runSeq_to_step_7 ha hh hidle hta hlegal (n + 3)
    _ = runSeq c (n + 2) ((s.programmed c pf).inRun (selectedLatches c df pf s) (dataMemory c df s) 8#4) :=
        runSeq_inRun ha hh (seqStep_at_7 rfl)
    _ = runSeq c (n + 1) ((s.programmed c pf).inRun (selectedLatches c df pf s) (faultedMemory c df pf s) 9#4) :=
        runSeq_inRun (s := s.programmed c pf) ha hh h8
    _ = runSeq c n (beforeReadBack c df pf s) := runSeq_inRun (s := s.programmed c pf) ha hh (seqStep_at_9 rfl)

/-- Step 10 reads the cell back and ends the run. -/
theorem runSeq_of_legal :
    runSeq c 10 (injectEffect df pf s) =
      .next { (memRead c s.a (beforeReadBack c df pf s)).2 with busy := false, stepCtr := 0#4 } := by
  have h10 : seqStep c (beforeReadBack c df pf s) =
      .next { (memRead c s.a (beforeReadBack c df pf s)).2 with busy := false, stepCtr := 0#4 } := by
    rw [seqStep_at_10 rfl, seqReadBack, onTarget_of_aligned _ hta]
    rfl
  rw [runSeq_to_step_10 ha hh hidle hta hlegal 1]
  exact runSeq_inRun (s := s.programmed c pf) ha hh h10

end

/-! ### The syndrome of the faulted cell (43_fault_injector R185) -/

/-- The selected data change the correct parity by the columns of the flipped data bits. -/
theorem ecc_faultedData (c : Params) (df : FaultCode) (a : Addr) :
    ecc c (faultedData df) a = ecc c correctWord a ^^^ flippedColumns c.rows df := by
  cases df with
  | none =>
    have hdata : faultedData .none = correctWord := by decide
    rw [hdata, flippedColumns_none, BitVec.xor_zero]
  | oneBit =>
    have hdata : faultedData .oneBit = correctWord ^^^ 1#64 <<< 0 := by decide
    rw [hdata, ecc_flip c _ a (by decide), flippedColumns]
  | twoBit =>
    have hdata : faultedData .twoBit = correctWord ^^^ 1#64 <<< 0 ^^^ 1#64 <<< 1 := by decide
    rw [hdata, ecc_flip c _ a (by decide), ecc_flip c _ a (by decide), flippedColumns, BitVec.xor_assoc]

/-- A term that stands on both sides of a difference cancels. -/
theorem xor_cancel_common {n : Nat} (e x y : BitVec n) : (e ^^^ x) ^^^ (e ^^^ y) = x ^^^ y := by
  rw [BitVec.xor_comm e x, BitVec.xor_assoc, ← BitVec.xor_assoc e e y, BitVec.xor_self, BitVec.zero_xor]

/-- The correct parity of the selected data differs from the selected parity by the preset's syndrome. -/
theorem ecc_faultedData_xor_selected (c : Params) (df pf : FaultCode) (a : Addr) :
    ecc c (faultedData df) a ^^^ (ecc c correctWord a ^^^ flipMask pf) = flippedColumns c.rows df ^^^ flipMask pf := by
  rw [ecc_faultedData, xor_cancel_common]

/-- The syndrome of the faulted cell is the preset's. -/
theorem syndrome_faultedCell (c : Params) (df pf : FaultCode) (a : Addr) :
    syndrome c a (faultedCell c df pf a) = flippedColumns c.rows df ^^^ flipMask pf :=
  ecc_faultedData_xor_selected c df pf a

/-! ### The read back (20_memory R68, R74) -/

/-- What a gated read of a written cell leaves when nothing was pending: a fault pending exactly for a syndrome that is
not zero, and the memory as it was or, for a fault classified Single, with the corrected cell. -/
theorem memRead_of_written {c : Params} {a : Addr} {x : MemCell} {s : State} (hx : cellAt s.mem a.toNat = some x)
    (hen : s.ramCtl.eccEn = true) (hp : s.fs.pending = false) :
    ∃ f m n, (memRead c a s).2 = { s with fs := f, mem := m, draws := n } ∧
      (f.pending = true ↔ syndrome c a x ≠ 0#8) ∧
      (f.pending = true → f.errorSource =
        if c.classify (syndrome c a x) = .single then .srcCorrectable else .srcUncorrectable) ∧
      (m = s.mem ∨ (f.pending = true ∧ c.classify (syndrome c a x) = .single ∧
        ∃ free, (canonicalData x.data → canonicalData free) ∧
          m = storeCell s.mem a.toNat (correctedCell c a x free))) := by
  obtain ⟨-, hwritten⟩ := memReadChecksTheCell c a s
  obtain ⟨hclean, hfaulty⟩ := hwritten x hx
  by_cases hsyn : syndrome c a x = 0#8
  · refine ⟨s.fs, s.mem, s.draws, ?_, by simp [hp, hsyn], by simp [hp], .inl rfl⟩
    rw [hclean (.inr ((syndrome_eq_zero_iff c a x).1 hsyn))]
  · obtain ⟨v, f, m, n, hread, hf, hpend, hm⟩ := hfaulty hen (mt (syndrome_eq_zero_iff c a x).2 hsyn)
    obtain ⟨addr, info, k, hcap⟩ := (captureKeepsTheFirstFault c (syndrome c a x) s).2 hp
    have hsource : f.errorSource =
        if c.classify (syndrome c a x) = .single then .srcCorrectable else .srcUncorrectable :=
      (congrArg FaultStatus.errorSource hf).trans (congrArg (fun t => t.fs.errorSource) hcap)
    refine ⟨f, m, n, by rw [hread], by simp [hpend, hsyn], fun _ => hsource, hm.imp id ?_⟩
    rintro ⟨-, hsingle, free, d, rfl, hfree, hm⟩
    exact ⟨hpend, hsingle, free, hfree, hm⟩

/-! ### What a correction of a preset's fault gives (10_state R51) -/

/-- Under SECDED a live column is that of no other data or parity bit. -/
theorem Secded.column_unique {rows : Fin 8 → Word128} {k j : Nat} (h : Secded rows k) (hj : livePosition k j) :
    ∀ l, l < 64 ∨ (128 ≤ l ∧ l < 136) → (extColumn rows l = extColumn rows j ↔ l = j) := by
  intro l hl
  have hlive : livePosition k l := hl.imp (fun h => by omega) id
  refine ⟨fun he => ?_, fun he => by rw [he]⟩
  by_contra hne
  exact h.distinct l j hlive hj hne he

/-- Under SECDED a legal preset's fault that is Single by default is one flipped bit, which the correction flips back
or, in the parity, leaves to the correct parity. -/
theorem correctedData_preset_canonical {rows : Fin 8 → Word128} {k : Nat} {df pf : FaultCode} (free : Word64)
    (hk : 3 ≤ k ∧ k ≤ 27) (hs : Secded rows k) (hlegal : flipCount df + flipCount pf ≤ 2)
    (hsyn : flippedColumns rows df ^^^ flipMask pf ≠ 0#8)
    (hsingle : classifyDefault rows (flippedColumns rows df ^^^ flipMask pf) = .single) :
    canonicalData (correctedData rows (flippedColumns rows df ^^^ flipMask pf) (faultedData df) free) := by
  obtain ⟨-, -, -, hsecded⟩ := presetSyndromesClassify rows
  obtain ⟨-, -, -, hmulti02, hmulti11, hmulti20⟩ := hsecded k hk.1 hk.2 hs
  match df, pf with
  | .none, .none => exact absurd BitVec.xor_self hsyn
  | .none, .oneBit =>
    rw [flippedColumns_none, BitVec.zero_xor, flipMask_oneBit rows, correctionFlipsTheIndicatedBit rows _ free 128
      (.inr (by decide)) (hs.column_unique (livePosition_parity k (by decide))), if_neg (by decide)]
    exact faultedData_canonical .none
  | .oneBit, .none =>
    rw [flipMask_none, BitVec.xor_zero, flippedColumns_oneBit, correctionFlipsTheIndicatedBit rows _ free 0
      (.inl (by decide)) (hs.column_unique (livePosition_data k (by decide))), if_pos (by decide)]
    exact .inl (by decide)
  | .none, .twoBit => exact absurd (hmulti02.symm.trans hsingle) (by decide)
  | .oneBit, .oneBit => exact absurd (hmulti11.symm.trans hsingle) (by decide)
  | .twoBit, .none => exact absurd (hmulti20.symm.trans hsingle) (by decide)
  | .oneBit, .twoBit | .twoBit, .oneBit | .twoBit, .twoBit => exact absurd hlegal (by decide)

/-! ### The end of the run (43_fault_injector R185) -/

/-- A cell other than the target is as before the run. -/
theorem cellAt_faultedMemory_other (c : Params) (df pf : FaultCode) (s : State) {b : Nat} (h : b ≠ s.a.toNat) :
    cellAt (faultedMemory c df pf s) b = cellAt s.mem b := by
  rw [faultedMemory, cellAt_storeCell_other _ _ h, dataMemory, cellAt_storeCell_other _ _ h, correctMemory,
    cellAt_storeCell_other _ _ h]

/-- Settles O49: accepted by O37, the steps to the read back by `runSeq_of_legal`, what that leaves by
`memRead_of_written`. -/
theorem undisturbedRunEndState : Obligations.UndisturbedRunEndState := by
  intro c df pf s hlegal hb ha hh hidle hp hta
  obtain ⟨haccepted, -⟩ := exec_accepted_and_ignored (exec_inject df pf s)
  have hcell : cellAt (beforeReadBack c df pf s).mem s.a.toNat = some (faultedCell c df pf s.a) :=
    cellAt_storeCell_same _ _ _
  obtain ⟨f, m, n, hread, hpend, hsource, hm⟩ := memRead_of_written hcell rfl hp
  rw [syndrome_faultedCell] at hpend hsource hm
  refine ⟨injectEffect df pf s, _, haccepted hb ha, runSeq_of_legal ha hh hidle hta hlegal, ?_⟩
  rw [hread]
  refine ⟨rfl, rfl, ha, hh, rfl, rfl, rfl, rfl, rfl, rfl, rfl, ecc_faultedData_xor_selected c df pf s.a, hpend, hsource,
    ?_, fun b hne => ?_⟩
  · rcases hm with rfl | ⟨hpending, hsingle, free, hfree, rfl⟩
    · exact .inl hcell
    · refine .inr ⟨hpending, hsingle, free, _, rfl, hfree (faultedData_canonical df), fun hs hdefault => ?_, ?_⟩
      · have hsyn := hpend.1 hpending
        exact correctedData_preset_canonical free (by omega) hs hlegal hsyn ((hdefault _ hsyn).symm.trans hsingle)
      · exact (cellAt_storeCell_same _ _ _).trans (by rw [correctedCell, syndrome_faultedCell]; rfl)
  · rcases hm with rfl | ⟨-, -, free, -, rfl⟩
    · exact cellAt_faultedMemory_other c df pf s hne
    · exact (cellAt_storeCell_other _ _ hne).trans (cellAt_faultedMemory_other c df pf s hne)

end Sys2Proof.Machine
end

section
/-! SUPPORT. Reset and boot (70_reset R250, R263), and runs of the whole machine: the end of an accepted run, the
handling of a pending fault, and the pseudo-operations of 30_encoding R112. -/

namespace Sys2Proof.Machine

/-! ### Reset and boot -/

/-- Settles O55: the reset table by `resetStep_eq`; the enabled RST-FAULT is the same step. -/
theorem resetClearsTheBlock : Obligations.ResetClearsTheBlock := by
  intro s
  obtain ⟨l, ⟨_, addr, info, src, act, irq⟩, rfl, h⟩ := resetStep_eq s
  refine ⟨l, addr, info, src, act, irq, s.draws + 4, congrArg Host.Outcome.next h, fun hp ha => ?_⟩
  exact congrArg Host.Outcome.next (if_pos (by simp [rstFaultEnabled, hp, ha]))

/-- Settles O56: HOST waits for the boot, which has the two outcomes of `INIT_OK`. -/
theorem bootFailureAborts : Obligations.BootFailureAborts := by
  intro s hb
  refine ⟨hostTurn_of_disabled (by simp [hostEnabled, hb]), s.draws + 1, ?_⟩
  have hboot : takeTurn .boot s = .next (bootStep s) := congrArg Host.Outcome.next (if_pos (by simp [bootEnabled, hb]))
  rw [hboot]
  rcases bootStep_cases s with ⟨hok, h⟩ | ⟨hok, h⟩ <;> rw [h, hok] <;> rfl

/-! ### Steps of a run of the machine -/

/-- A run goes on with what its first step leaves. -/
theorem run_succ_of_step {n : Nat} {s t : State} (h : step s = .next t) :
    Host.Core.run core (n + 1) s = Host.Core.run core n t := by
  have hstep : core.step s = .next t := h
  simp only [Host.Core.run, hstep]

/-- A run of one step is that step, whether it goes on or stops. -/
theorem run_one (s : State) : Host.Core.run core 1 s = step s := by
  have hstep : core.step s = step s := rfl
  simp only [Host.Core.run, hstep]
  cases step s <;> rfl

/-- A run of two steps whose first goes on is its second. -/
theorem run_two {s t : State} (h : step s = .next t) : Host.Core.run core 2 s = step t :=
  (run_succ_of_step (n := 1) h).trans (run_one t)

/-! ### An accepted run ends (60_exceptions R231; log 2) -/

/-- SEQ's steps leave the list of turns and the handler alone. -/
theorem seqEffect_turns_inHandler {c : Params} {s t : State} (h : SeqEffect c s t) :
    t.turns = s.turns ∧ t.inHandler = s.inHandler := by
  cases h with
  | readBack =>
    obtain ⟨f, m, n, h, -⟩ := memRead_state c s.lat.ta s
    rw [h]
    exact ⟨rfl, rfl⟩
  | _ => exact ⟨rfl, rfl⟩

/-- During a run the default turn is SEQ's, or the reset of a fault. -/
theorem defaultTurn_of_busy {s : State} (hi : StatusOk s) (hbusy : s.busy = true) (hh : s.inHandler = false) :
    seqEnabled s = true ∧
      (defaultTurn s = some .seq ∨ (defaultTurn s = some .rstFault ∧ rstFaultEnabled s = true)) := by
  have habort : s.abort = false := by
    by_contra ha
    exact absurd hbusy (by simp [(hi.abortIdle (by simpa using ha)).1])
  have hseq : seqEnabled s = true := (seqEnabled_iff s).2 ⟨hbusy, habort, hh, hi.busyStep hbusy⟩
  have hboot := hi.booted (.inl hbusy)
  refine ⟨hseq, ?_⟩
  cases hr : rstFaultEnabled s <;> simp [defaultTurn, bootEnabled, hboot, hseq, hr]

/-- A step of a run ends it, or leaves it one protocol step further on. -/
theorem step_of_busy {s : State} (hi : Inv s) (hts : s.turns = []) (hbusy : s.busy = true) (hh : s.inHandler = false) :
    ∃ t, step s = .next t ∧ Inv t ∧ (t.busy = false ∨
      (t.turns = [] ∧ t.inHandler = false ∧ t.stepCtr.toNat = s.stepCtr.toNat + 1)) := by
  obtain ⟨t, ht⟩ := stepAlwaysGoesOn s hi
  obtain ⟨hit, -⟩ := stepKeepsInvariant s t hi ht
  refine ⟨t, ht, hit, ?_⟩
  obtain ⟨hseq, hd | ⟨hd, hr⟩⟩ := defaultTurn_of_busy hi.status hbusy hh <;> rw [step_of_defaultTurn hts hd] at ht
  · have hstep : seqStep Config.device s = .next t := by simpa only [takeTurn, hseq, if_true] using ht
    obtain ⟨hturns, hhandler⟩ := seqEffect_turns_inHandler (seqStep_seqEffect hseq hstep)
    rw [hts] at hturns
    rw [hh] at hhandler
    rcases seqStep_stepCtr hseq hstep with ⟨ha, -⟩ | ⟨-, hn⟩
    · exact .inl (hit.status.abortIdle ha).1
    · split at hn
      · refine .inl (by_contra fun hb => ?_)
        obtain ⟨h1, -⟩ := hit.status.busyStep (by simpa using hb)
        omega
      · exact .inr ⟨hturns, hhandler, hn⟩
  · have hreset : resetStep s = t := by simpa only [takeTurn, hr, if_true, Host.Outcome.next.injEq] using ht
    exact .inl (hreset ▸ rfl)

/-- With `k` protocol steps at most to go, a run ends within `k` steps. -/
theorem run_of_busy_ends (k : Nat) {s : State} (hi : Inv s) (hts : s.turns = []) (hbusy : s.busy = true)
    (hh : s.inHandler = false) (hk : 11 ≤ s.stepCtr.toNat + k) :
    ∃ n t, n ≤ k ∧ Host.Core.run core n s = .next t ∧ t.busy = false := by
  induction k generalizing s with
  | zero =>
    have hrange := hi.status.busyStep hbusy
    omega
  | succ k ih =>
    obtain ⟨t, ht, hit, hcase⟩ := step_of_busy hi hts hbusy hh
    cases hb : t.busy with
    | false => exact ⟨1, t, by omega, (run_one s).trans ht, hb⟩
    | true =>
      rcases hcase with hidle | ⟨htst, hht, hn⟩
      · simp [hb] at hidle
      · obtain ⟨n, u, hle, hrun, hu⟩ := ih hit htst hb hht (by omega)
        exact ⟨n + 1, u, by omega, (run_succ_of_step ht).trans hrun, hu⟩

/-- Settles O57: a run in progress has at most ten protocol steps to go. -/
theorem acceptedRunFinishes : Obligations.AcceptedRunFinishes := by
  intro s hi hts hbusy hh
  obtain ⟨h1, -⟩ := hi.status.busyStep hbusy
  exact run_of_busy_ends 10 hi hts hbusy hh (by omega)

/-! ### A pending fault is handled (60_exceptions R220; log 2) -/

/-- Settles O58: the two steps are the handler's two, each the default turn in its state. -/
theorem pendingFaultIsHandled : Obligations.PendingFaultIsHandled := by
  intro s _ hboot hts hbusy habort hh hp haction hirq
  have hentry : hndAEnabled s = true := (hndAEnabled_iff s).2 ⟨hp, haction, hirq, hh, habort⟩
  have hdA : defaultTurn s = some .hndA := by
    simp [defaultTurn, bootEnabled, rstFaultEnabled, seqEnabled, hndBEnabled, hboot, haction, hbusy, hh, hentry]
  have hdB : defaultTurn (handlerStepA Config.device s) = some .hndB := by
    simp [handlerStepA_eq, defaultTurn, bootEnabled, rstFaultEnabled, seqEnabled, hndBEnabled, hboot, hbusy]
  have hA : step s = .next (handlerStepA Config.device s) := by
    rw [step_of_defaultTurn hts hdA, takeTurn_hndA hentry]
  have hB : step (handlerStepA Config.device s) = .next (handlerStepB (handlerStepA Config.device s)) := by
    rw [step_of_defaultTurn (s := handlerStepA Config.device s) hts hdB, takeTurn_hndB rfl]
  refine ⟨handlerStepB (handlerStepA Config.device s), (run_two hA).trans hB, ?_⟩
  rw [handlerStepB_eq, handlerStepA_eq]
  simp [idleFlags]

/-! ### The pseudo-operations (30_encoding R112) -/

/-- Both halves of a register written, the lower one first, leave the value they are the halves of. -/
theorem withHighHalf_withLowHalf (x v : Word64) : withHighHalf (withLowHalf x (lowHalf v)) (highHalf v) = v := by
  have hv := v.isLt
  have hx := x.isLt
  rw [withHighHalf_eq_highWritten, withLowHalf_eq_lowWritten, highWritten, lowWritten, lowHalf_toNat, highHalf_toNat,
    ← BitVec.toNat_inj, BitVec.toNat_ofNat, BitVec.toNat_ofNat]
  omega

/-- The first of the placed requests is the next step, with the rest placed. -/
theorem step_withRequests {w : BusWord} {ws : List BusWord} {s : State} (hb : s.booted = true)
    (hh : s.inHandler = false) : step (withRequests (w :: ws) s) = exec (decodeBus w) (withRequests ws s) := by
  obtain ⟨hlisted, -⟩ := stepRunsTheRequestedOperation (withRequests (w :: ws) s) w (ws ++ s.hostOps) hb hh rfl
  exact hlisted (ws.map (fun _ => Turn.host) ++ s.turns) rfl

/-- A register write has nothing to do with the requests. -/
theorem busWriteReg_withRequests (r : RegIndex) (v : Word32) (ws : List BusWord) (s : State) :
    busWriteReg r v (withRequests ws s) = withRequests ws (busWriteReg r v s) := by
  unfold busWriteReg
  split <;> rfl

/-- A placed register write is performed, and the run goes on with the rest. -/
theorem run_withRequests_wr {n : Nat} {r : RegIndex} {v : Word32} {ws : List BusWord} {s : State}
    (hboot : s.booted = true) (hh : s.inHandler = false) (hbusy : s.busy = false) (ha : s.abort = false)
    (hr : r ≠ cmdIndex := by decide) :
    Host.Core.run core (n + 1) (withRequests (encode (.wr r v) :: ws) s) =
      Host.Core.run core n (withRequests ws (busWriteReg r v s)) := by
  have hdecode : decodeBus (encode (.wr r v)) = .wr r v := decodeBus_busWord_write fun h => absurd h hr
  have hwrite : hostWrite (busWrite Config.device r v) (withRequests ws s) = withRequests ws (busWriteReg r v s) := by
    rw [hostWrite_accepted (s := withRequests ws s) hbusy ha, busWrite, if_neg hr, busWriteReg_withRequests]
  refine run_succ_of_step ?_
  rw [step_withRequests hboot hh, hdecode, exec_wr, hwrite]

/-- The external `FS.action <- x` and then the menu preset, placed: by definition GENCI for Interrupt, GENCR for Reset. -/
def pseudoPreset (x : FaultAction) (s : State) : State :=
  (s.setHostOps (menuPreset :: s.hostOps)).setTurns (.setAction x :: .host :: s.turns)

/-- External code's write of `FS`, when the block is not aborted (10_state R44, R45; log 15). -/
theorem takeTurn_setAction {s : State} (x : FaultAction) (ha : s.abort = false) :
    takeTurn (.setAction x) s = .next { s with fs := { s.fs with action := x } } :=
  congrArg Host.Outcome.next (if_pos (by simp [configEnabled, ha]))

/-- GENCI and GENCR are the write of `FS.action` and then `INJECT None, OneBit`. -/
theorem run_pseudoPreset {x : FaultAction} {s : State} (hb : s.booted = true) (hh : s.inHandler = false)
    (ha : s.abort = false) :
    Host.Core.run core 2 (pseudoPreset x s) =
      exec (.inject .none .oneBit) { s with fs := { s.fs with action := x } } := by
  have hfirst : step (pseudoPreset x s) =
      .next (withRequests [menuPreset] { s with fs := { s.fs with action := x } }) := by
    rw [step_of_turns rfl]
    exact takeTurn_setAction x ha
  have hdecode : decodeBus menuPreset = .inject .none .oneBit := decodeInvertsEncode (.inject .none .oneBit) rfl
  have hsecond := step_withRequests (w := menuPreset) (ws := []) (s := { s with fs := { s.fs with action := x } }) hb hh
  rw [hdecode] at hsecond
  exact (run_two hfirst).trans hsecond

/-- Settles O60: each request is one register write, GENCI and GENCR by `run_pseudoPreset`, the external writes by their
enabling condition. -/
theorem pseudoOperationsHaveTheirEffect : Obligations.PseudoOperationsHaveTheirEffect := by
  refine ⟨fun s v lo hi a hboot hh hbusy ha => ⟨?_, ?_, ?_⟩, fun s hb hh ha =>
    ⟨run_pseudoPreset hb hh ha, run_pseudoPreset hb hh ha⟩, fun s x b =>
    ⟨fun ha => ⟨takeTurn_setAction x ha, congrArg Host.Outcome.next (if_pos (by simp [configEnabled, ha]))⟩,
      fun ha =>
        ⟨next_ite_of_disabled (by simp [configEnabled, ha]), next_ite_of_disabled (by simp [configEnabled, ha])⟩⟩⟩
  · calc Host.Core.run core 2 (withRequests (pseudoLdd v) s)
        = Host.Core.run core 1 (withRequests [encode (.wr 3#4 (highHalf v))] (s.setD (withLowHalf s.d (lowHalf v)))) :=
          run_withRequests_wr hboot hh hbusy ha
      _ = .next (s.setD (withHighHalf (withLowHalf s.d (lowHalf v)) (highHalf v))) :=
          run_withRequests_wr (s := s.setD _) hboot hh hbusy ha
      _ = .next (s.setD v) := by rw [withHighHalf_withLowHalf]
  · exact run_withRequests_wr hboot hh hbusy ha
  · calc Host.Core.run core 4 (withRequests (pseudoLdw lo hi) s)
        = Host.Core.run core 3 (withRequests [encode (.wr 6#4 (highHalf lo)), encode (.wr 7#4 (lowHalf hi)),
            encode (.wr 8#4 (highHalf hi))] (s.setW ⟨withLowHalf s.w.low (lowHalf lo), s.w.high⟩)) :=
          run_withRequests_wr hboot hh hbusy ha
      _ = Host.Core.run core 2 (withRequests [encode (.wr 7#4 (lowHalf hi)), encode (.wr 8#4 (highHalf hi))]
            (s.setW ⟨withHighHalf (withLowHalf s.w.low (lowHalf lo)) (highHalf lo), s.w.high⟩)) :=
          run_withRequests_wr (s := s.setW _) hboot hh hbusy ha
      _ = Host.Core.run core 1 (withRequests [encode (.wr 8#4 (highHalf hi))]
            (s.setW ⟨withHighHalf (withLowHalf s.w.low (lowHalf lo)) (highHalf lo),
              withLowHalf s.w.high (lowHalf hi)⟩)) :=
          run_withRequests_wr (s := s.setW _) hboot hh hbusy ha
      _ = .next (s.setW ⟨withHighHalf (withLowHalf s.w.low (lowHalf lo)) (highHalf lo),
            withHighHalf (withLowHalf s.w.high (lowHalf hi)) (highHalf hi)⟩) :=
          run_withRequests_wr (s := s.setW _) hboot hh hbusy ha
      _ = .next (s.setW ⟨lo, hi⟩) := by rw [withHighHalf_withLowHalf, withHighHalf_withLowHalf]

end Sys2Proof.Machine
end
